-- ==== Sys2Proof/Word.lean ====
section
/-! DEFINITION. Bytes, bounded counters, byte writers and the four-fold record that holds one thing per port. -/

namespace Sys2Proof

abbrev Byte := BitVec 8

/-- A port of the hub, 0 to 3 (00_scope.md, Numbering). -/
abbrev Port := Fin 4

/-- Every port, in ascending order. -/
def allPorts : List Port := [0, 1, 2, 3]

/-- "Clamped into a range" (00_scope.md, Clamping). -/
def clampTo (lo hi n : Nat) : Nat := max lo (min n hi)

/-- A count "holding at" its greatest value. -/
def holdInc (cap n : Nat) : Nat := min (n + 1) cap

/-- A count that wraps to 0 after `m - 1`. -/
def wrapInc (m n : Nat) : Nat := (n + 1) % m

/-- Rounded up to a multiple of 50 mA (R2, R10). -/
def roundUp50 (n : Nat) : Nat := (n + 49) / 50 * 50

/-- `k` bytes of `n`, most significant first (12_notice_and_record_layouts.md). -/
def beBytes : (k n : Nat) → List Byte
  | 0, _ => []
  | k + 1, n => BitVec.ofNat 8 (n / 256 ^ k) :: beBytes k n

/-- `n` bits of `v`, most significant first. -/
def beBits : (n v : Nat) → List Bool
  | 0, _ => []
  | n + 1, v => (v / 2 ^ n % 2 == 1) :: beBits n v

/-- The number a list of bits spells, most significant first. -/
def bitsValue (bits : List Bool) : Nat := bits.foldl (fun n b => 2 * n + b.toNat) 0

/-- One thing for each of the four ports. -/
structure Four (α : Type) where
  c0 : α
  c1 : α
  c2 : α
  c3 : α
deriving DecidableEq, Repr

/-- The same thing for every port. -/
def Four.all {α : Type} (a : α) : Four α := ⟨a, a, a, a⟩

def Four.get {α : Type} (f : Four α) : Port → α
  | 0 => f.c0
  | 1 => f.c1
  | 2 => f.c2
  | 3 => f.c3

def Four.set {α : Type} (f : Four α) (p : Port) (a : α) : Four α :=
  match p with
  | 0 => { f with c0 := a }
  | 1 => { f with c1 := a }
  | 2 => { f with c2 := a }
  | 3 => { f with c3 := a }

def Four.map {α β : Type} (g : α → β) (f : Four α) : Four β :=
  ⟨g f.c0, g f.c1, g f.c2, g f.c3⟩

@[simp] theorem Four.get_set_same {α : Type} (f : Four α) (p : Port) (a : α) :
    (f.set p a).get p = a := by
  match p with
  | 0 => rfl
  | 1 => rfl
  | 2 => rfl
  | 3 => rfl

theorem Four.get_set_ne {α : Type} (f : Four α) {p q : Port} (a : α) (h : q ≠ p) :
    (f.set p a).get q = f.get q := by
  match p, q with
  | 0, 0 => exact absurd rfl h
  | 1, 1 => exact absurd rfl h
  | 2, 2 => exact absurd rfl h
  | 3, 3 => exact absurd rfl h
  | 0, 1 => rfl
  | 0, 2 => rfl
  | 0, 3 => rfl
  | 1, 0 => rfl
  | 1, 2 => rfl
  | 1, 3 => rfl
  | 2, 0 => rfl
  | 2, 1 => rfl
  | 2, 3 => rfl
  | 3, 0 => rfl
  | 3, 1 => rfl
  | 3, 2 => rfl

@[simp] theorem Four.get_all {α : Type} (a : α) (p : Port) : (Four.all a).get p = a := by
  match p with
  | 0 => rfl
  | 1 => rfl
  | 2 => rfl
  | 3 => rfl

@[simp] theorem Four.get_map {α β : Type} (g : α → β) (f : Four α) (p : Port) :
    (f.map g).get p = g (f.get p) := by
  match p with
  | 0 => rfl
  | 1 => rfl
  | 2 => rfl
  | 3 => rfl

end Sys2Proof
end

