-- ==== Sys2Proof/Syntax.lean ====
section
/-! DEFINITION. The commands the hub takes: one constructor of Instr for each row of spec/opcode_table.json. -/

namespace Sys2Proof

/-- The two motors of a camera head's lens (04_lens_axes.md). -/
inductive AxisName where
  | focus
  | iris
deriving DecidableEq, Repr

/-- One of the eight axes, written 0-FOCUS to 3-IRIS. -/
structure AxisId where
  port : Port
  name : AxisName
deriving DecidableEq, Repr

/-- R43: one axis's part of a position report: position in counts, near and far end flags. -/
structure HeadReport where
  pos : BitVec 16
  near : Bool
  far : Bool
deriving DecidableEq, Repr

/-- R43: pixel formats of a frame start. -/
inductive PixelFormat where
  | bits8
  | bits10
  | bits12
deriving DecidableEq, Repr

/-- R148: one trace, signed 12-bit samples, bin 0 first. -/
abbrev Trace := List (BitVec 12)

/-- R167: how a notice breaks off: a start bit, 11 released bit times, or a bit the line code does not
allow, which is the sixth of one level: released or driven. -/
inductive LineBreak where
  | startBit
  | silence
  | lineCode (released : Bool)
deriving DecidableEq, Repr

/-- R167: the receive errors. -/
inductive RxError where
  | lengthField
  | senderField
  | payloadLength
  | brokeOff (how : LineBreak)
  | crc
deriving DecidableEq, Repr

/-- R184: the two ways the hub starts. -/
inductive StartCause where
  | powerOn
  | restart
deriving DecidableEq, Repr

/-- Who sent a command, to whom, and with which tag (R169). -/
structure CmdHead where
  sender : BitVec 4
  target : BitVec 4
  tag : Byte
deriving DecidableEq, Repr

/-- The commands. The first 31 are the catalogue's commands (10.4) as they reach the command unit,
with the argument fields of 12.2 (log 1); the rest are the events of the hub and of its surroundings
(log 2). -/
inductive Instr where
  | portPowerOn (h : CmdHead) (port : Byte)
  | portPowerOff (h : CmdHead) (port : Byte)
  | setLockout (h : CmdHead) (port : Byte)
  | clearLockout (h : CmdHead) (port kind : Byte)
  | portStatus (h : CmdHead) (port : Byte)
  | forgetStation (h : CmdHead) (station : Byte)
  | readCellView (h : CmdHead)
  | lensMove (h : CmdHead) (axis mode : Byte) (target : BitVec 24)
  | lensStop (h : CmdHead) (axis : Byte)
  | lensSetParam (h : CmdHead) (axis param : Byte) (value : BitVec 16)
  | lensRecover (h : CmdHead) (axis : Byte)
  | freezeRelease (h : CmdHead)
  | axisStatus (h : CmdHead) (axis : Byte)
  | scanBegin (h : CmdHead) (port count passes endAction storeFrames : Byte)
  | scanStep (h : CmdHead) (port index : Byte) (focus : BitVec 16) (irisPresent : Byte)
      (iris : BitVec 16) (captures settle : Byte)
  | scanRun (h : CmdHead) (port : Byte)
  | scanAbortClear (h : CmdHead) (port : Byte)
  | scanCancel (h : CmdHead) (port : Byte)
  | scanResult (h : CmdHead) (port : Byte)
  | frameRelease (h : CmdHead) (slot : Byte)
  | frameResend (h : CmdHead) (slot : Byte)
  | frameHeader (h : CmdHead) (slot : Byte)
  | storeStatus (h : CmdHead)
  | readMissed (h : CmdHead) (record : BitVec 16)
  | sweepStart (h : CmdHead) (port kind powerDownOk : Byte)
  | sweepCancel (h : CmdHead) (port : Byte)
  | sweepResult (h : CmdHead) (port : Byte)
  | readEvents (h : CmdHead) (release : BitVec 32)
  | configWrite (h : CmdHead) (item index : Byte) (value : BitVec 32)
  | configCommit (h : CmdHead)
  | restart (h : CmdHead)
  | start (cause : StartCause) (straps : BitVec 4) (guardActive readyHigh terminated : Bool)
  | currentSample (port : Port) (sample : BitVec 16)
  | inrushEnd (port : Port) (limiterActive : Bool)
  | settleEnd
  | backoffExpiry
  | refreshExpiry
  | surgeExpiry (station : BitVec 4)
  | entryStale (station : BitVec 4)
  | attemptBegin
  | arbitrationLost
  | transmitFailure
  | muteEnd
  | attemptEnd (heard flaw hold : Bool)
  | triggerReceived (sender target : BitVec 4) (lineByte sequence : Byte)
  | claimReceived (sender target : BitVec 4) (standing surge lifetime : BitVec 16)
      (peerFlaw peerHold : Bool)
  | standingReceived (sender target : BitVec 4) (standing : BitVec 16)
  | commandReceived (sender target : BitVec 4) (payload : List Byte)
  | otherNoticeReceived (sender target : BitVec 4) (kind : BitVec 3)
  | receiveError (error : RxError) (reachesTrailer : Bool)
  | lockReport (port : Port) (locked : Bool)
  | streamLost (port : Port)
  | resumeCheckExpiry (port : Port)
  | trainingTimeout (port : Port)
  | errorWindowEnd (port : Port)
  | codeError (port : Port)
  | frameStart (port : Port) (format : PixelFormat) (width height : BitVec 16)
  | pixelData (port : Port) (row column : BitVec 16) (pixels : List (BitVec 12))
  | frameEnd (port : Port) (rowsSent : BitVec 16)
  | positionReport (port : Port) (focus iris : HeadReport)
  | lensUpdate (axis : AxisId)
  | holdExpiry (axis : AxisId)
  | guardActivated
  | guardReleased
  | senseEdge (input : Fin 2)
  | abandonStop (port : Port)
  | delayEnd (port : Port)
  | deferExpiry (port : Port)
  | exposeTimeout (port : Port)
  | scanSettleEnd (port : Port)
  | acquisitionComplete (trace : Trace)
  | calibrationComplete (traces : List Trace)
  | gatheringWindowExpiry
  | deadlineExpiry
  | terminationPresent
  | terminationLost
  | alignEnd
  | readyHigh
  | readyLow
  | sendPaused (bytesSent : Nat)
  | sendEnd
  | storeWriteEnd (readBack : Bool)
  | powerLoss
deriving DecidableEq, Repr

/-- The 31 commands of the catalogue as the receive buffer holds them (R169): code and arguments. The
last constructor is a command that the command unit refuses at R172's first two checks: its code is
unknown, or its payload has not the argument bytes of its layout. -/
inductive Cmd where
  | portPowerOn (port : Byte)
  | portPowerOff (port : Byte)
  | setLockout (port : Byte)
  | clearLockout (port kind : Byte)
  | portStatus (port : Byte)
  | forgetStation (station : Byte)
  | readCellView
  | lensMove (axis mode : Byte) (target : BitVec 24)
  | lensStop (axis : Byte)
  | lensSetParam (axis param : Byte) (value : BitVec 16)
  | lensRecover (axis : Byte)
  | freezeRelease
  | axisStatus (axis : Byte)
  | scanBegin (port count passes endAction storeFrames : Byte)
  | scanStep (port index : Byte) (focus : BitVec 16) (irisPresent : Byte) (iris : BitVec 16)
      (captures settle : Byte)
  | scanRun (port : Byte)
  | scanAbortClear (port : Byte)
  | scanCancel (port : Byte)
  | scanResult (port : Byte)
  | frameRelease (slot : Byte)
  | frameResend (slot : Byte)
  | frameHeader (slot : Byte)
  | storeStatus
  | readMissed (record : BitVec 16)
  | sweepStart (port kind powerDownOk : Byte)
  | sweepCancel (port : Byte)
  | sweepResult (port : Byte)
  | readEvents (release : BitVec 32)
  | configWrite (item index : Byte) (value : BitVec 32)
  | configCommit
  | restart
  | malformed (code : Byte) (args : List Byte)
deriving DecidableEq, Repr

end Sys2Proof
end

