-- ==== Sys2Proof/Decode.lean ====
section
/-! DEFINITION. Reading a command: the table's words (none of its rows has bits) and the COMMAND payloads of chapter 12. -/

namespace Sys2Proof

/-- No row of spec/opcode_table.json gives bits, so no word spells a command (log 28). -/
def decodeTableWord (_nbits _w : Nat) : Option Instr := none

/-- 12.2: the code of a command of the catalogue, in the order of the catalogue. -/
def Cmd.code : Cmd → Byte
  | .portPowerOn _ => 0x01
  | .portPowerOff _ => 0x02
  | .setLockout _ => 0x03
  | .clearLockout _ _ => 0x04
  | .portStatus _ => 0x05
  | .forgetStation _ => 0x06
  | .readCellView => 0x07
  | .lensMove _ _ _ => 0x08
  | .lensStop _ => 0x09
  | .lensSetParam _ _ _ => 0x0A
  | .lensRecover _ => 0x0B
  | .freezeRelease => 0x0C
  | .axisStatus _ => 0x0D
  | .scanBegin _ _ _ _ _ => 0x0E
  | .scanStep _ _ _ _ _ _ _ => 0x0F
  | .scanRun _ => 0x10
  | .scanAbortClear _ => 0x11
  | .scanCancel _ => 0x12
  | .scanResult _ => 0x13
  | .frameRelease _ => 0x14
  | .frameResend _ => 0x15
  | .frameHeader _ => 0x16
  | .storeStatus => 0x17
  | .readMissed _ => 0x18
  | .sweepStart _ _ _ => 0x19
  | .sweepCancel _ => 0x1A
  | .sweepResult _ => 0x1B
  | .readEvents _ => 0x1C
  | .configWrite _ _ _ => 0x1D
  | .configCommit => 0x1E
  | .restart => 0x1F
  | .malformed c _ => c

/-- 12.2: code and argument bytes to a command. An unknown code, or argument bytes that are fewer or
more than the layout gives, make `malformed` (refused by R172). -/
def Cmd.parse (code : Byte) (args : List Byte) : Cmd :=
  match code.toNat, args with
  | 0x01, [p] => .portPowerOn p
  | 0x02, [p] => .portPowerOff p
  | 0x03, [p] => .setLockout p
  | 0x04, [p, k] => .clearLockout p k
  | 0x05, [p] => .portStatus p
  | 0x06, [st] => .forgetStation st
  | 0x07, [] => .readCellView
  | 0x08, [a, m, t0, t1, t2] => .lensMove a m (t0 ++ t1 ++ t2)
  | 0x09, [a] => .lensStop a
  | 0x0A, [a, n, v0, v1] => .lensSetParam a n (v0 ++ v1)
  | 0x0B, [a] => .lensRecover a
  | 0x0C, [] => .freezeRelease
  | 0x0D, [a] => .axisStatus a
  | 0x0E, [p, n, q, e, f] => .scanBegin p n q e f
  | 0x0F, [p, i, f0, f1, ip, i0, i1, c, w] => .scanStep p i (f0 ++ f1) ip (i0 ++ i1) c w
  | 0x10, [p] => .scanRun p
  | 0x11, [p] => .scanAbortClear p
  | 0x12, [p] => .scanCancel p
  | 0x13, [p] => .scanResult p
  | 0x14, [n] => .frameRelease n
  | 0x15, [n] => .frameResend n
  | 0x16, [n] => .frameHeader n
  | 0x17, [] => .storeStatus
  | 0x18, [r0, r1] => .readMissed (r0 ++ r1)
  | 0x19, [p, k, ok] => .sweepStart p k ok
  | 0x1A, [p] => .sweepCancel p
  | 0x1B, [p] => .sweepResult p
  | 0x1C, [e0, e1, e2, e3] => .readEvents (e0 ++ e1 ++ e2 ++ e3)
  | 0x1D, [i, x, v0, v1, v2, v3] => .configWrite i x (v0 ++ v1 ++ v2 ++ v3)
  | 0x1E, [] => .configCommit
  | 0x1F, [] => .restart
  | _, _ => .malformed code args

/-- The bytes of a number as an argument carries them, most significant first. -/
def argBytes {w : Nat} (k : Nat) (v : BitVec w) : List Byte := beBytes k v.toNat

/-- 12.2: the argument bytes of a command. -/
def Cmd.args : Cmd → List Byte
  | .portPowerOn p => [p]
  | .portPowerOff p => [p]
  | .setLockout p => [p]
  | .clearLockout p k => [p, k]
  | .portStatus p => [p]
  | .forgetStation st => [st]
  | .readCellView => []
  | .lensMove a m t => a :: m :: argBytes 3 t
  | .lensStop a => [a]
  | .lensSetParam a n v => a :: n :: argBytes 2 v
  | .lensRecover a => [a]
  | .freezeRelease => []
  | .axisStatus a => [a]
  | .scanBegin p n q e f => [p, n, q, e, f]
  | .scanStep p i f ip ir c w => [p, i] ++ argBytes 2 f ++ [ip] ++ argBytes 2 ir ++ [c, w]
  | .scanRun p => [p]
  | .scanAbortClear p => [p]
  | .scanCancel p => [p]
  | .scanResult p => [p]
  | .frameRelease n => [n]
  | .frameResend n => [n]
  | .frameHeader n => [n]
  | .storeStatus => []
  | .readMissed r => argBytes 2 r
  | .sweepStart p k ok => [p, k, ok]
  | .sweepCancel p => [p]
  | .sweepResult p => [p]
  | .readEvents e => argBytes 4 e
  | .configWrite i x v => [i, x] ++ argBytes 4 v
  | .configCommit => []
  | .restart => []
  | .malformed _ args => args

end Sys2Proof
end

