-- ==== Sys2Proof/Config.lean ====
section
/-! DEFINITION. The hub's fixed figures, and the free values: constants without a body for what the spec leaves open. -/

namespace Sys2Proof.Config

/-- Microseconds in a millisecond. -/
def usPerMs : Nat := 1000
/-- R3, R7: the inrush period, 50 ms. -/
def inrushUs : Nat := 50000
/-- R8: the trip level, mA. -/
def tripLevel : Nat := 2000
/-- R8: samples below this are undercurrent, mA. -/
def underLevel : Nat := 20
/-- R40: settle, 1,500 ms. -/
def settleUs : Nat := 1500000
/-- R32: the refresh period, 500 ms. -/
def refreshUs : Nat := 500000
/-- R38: an entry becomes STALE after 1,500 ms. -/
def staleUs : Nat := 1500000
/-- R26: the lifetime of a claim's surge, 100 ms. -/
def surgeMs : Nat := 100
/-- R46: training times out at 500 ms. -/
def trainingUs : Nat := 500000
/-- R49: a code-error window, 100 ms. -/
def windowUs : Nat := 100000
/-- R44: the head resumes its stream within 1 ms of a QUIET release. -/
def resumeUs : Nat := 1000
/-- R53: no piece is granted within 2 ms of a settle's end. -/
def pieceUs : Nat := 2000
/-- R104: the bytes of a slot, 8 MiB. -/
def slotBytes : Nat := 8388608
/-- R111: the frame out link aligns for 100 µs. -/
def alignUs : Nat := 100
/-- R138: the gathering window, 250 ms. -/
def gatherUs : Nat := 250000
/-- R146: a live session's deadline, 2,000 ms. -/
def deadlineUs : Nat := 2000000
/-- R164: MUTE lasts 1,000 ms. -/
def muteUs : Nat := 1000000
/-- R159: released bit times that make the line free. -/
def idleBits : Nat := 11
/-- R165: places of the transmit queue. -/
def txPlaces : Nat := 16
/-- R158: payload bytes of a notice at most. -/
def payloadBytes : Nat := 24
/-- R170: places of the receive buffer. -/
def rxPlaces : Nat := 4
/-- R148: bins of a trace. -/
def bins : Nat := 2048

/-- R183: whether a store operation cut short by a power loss or a start leaves its place torn (else
blank). The spec says "torn or blank" and no more: a free value, drawn at the state's counter
(DESIGN CHOICE, log 7). -/
opaque freeTorn : Nat → Bool

/-- R172, R173: the code and the tag a reply carries when the COMMAND's payload was too short to hold
them. The spec states none: a free value (DESIGN CHOICE, log 8). -/
opaque freeByte : Nat → Byte

end Sys2Proof.Config
end

