-- ==== Sys2Proof/Machine/Image.lean ====
section
/-! DEFINITION. Event names, the configuration image and its items (R175, R181), and the axis parameters (section 4.3). -/

namespace Sys2Proof.Machine

/-- The 25 event names, in the order of the event table (10.5). -/
inductive EventName where
  | portTripped
  | openSuspect
  | portShed
  | powerDenied
  | cellOver
  | linkUp
  | linkDown
  | linkDegraded
  | trainingTimeout
  | triggerGap
  | triggerMissed
  | senseOverrun
  | exposeTimeout
  | frameDropped
  | storeTight
  | storeOpen
  | lensDone
  | lensEndStop
  | lensLost
  | lensFrozen
  | scanDone
  | scanAborted
  | sweepDone
  | faultFound
  | started
deriving DecidableEq, Repr

/-- 12.2: events are coded 1 to 25 in the order of the event table; the index counts from 0. -/
def EventName.index : EventName → Nat
  | .portTripped => 0
  | .openSuspect => 1
  | .portShed => 2
  | .powerDenied => 3
  | .cellOver => 4
  | .linkUp => 5
  | .linkDown => 6
  | .linkDegraded => 7
  | .trainingTimeout => 8
  | .triggerGap => 9
  | .triggerMissed => 10
  | .senseOverrun => 11
  | .exposeTimeout => 12
  | .frameDropped => 13
  | .storeTight => 14
  | .storeOpen => 15
  | .lensDone => 16
  | .lensEndStop => 17
  | .lensLost => 18
  | .lensFrozen => 19
  | .scanDone => 20
  | .scanAborted => 21
  | .sweepDone => 22
  | .faultFound => 23
  | .started => 24

/-- R181: a set of events as bit (code - 1) for each event named. -/
def eventSet (es : List EventName) : BitVec 32 :=
  es.foldl (fun m e => m ||| (1#32 <<< e.index)) 0#32

/-- The configuration items of R181, each of 32 bits, in one list: hub-wide items 1 to 13, then port
items 16 to 31 with four entries each, then lens parameters 32 to 46 with eight entries each. -/
abbrev ConfigImage := List (BitVec 32)

/-- R181: the place of an item in the image; none for an item number or an index the hub does not
know. -/
def itemPlace (item index : Nat) : Option Nat :=
  if 1 ≤ item ∧ item ≤ 11 ∧ index = 0 then some (item - 1)
  else if item = 12 ∧ index < 4 then some (11 + index)
  else if item = 13 ∧ index < 2 then some (15 + index)
  else if 16 ≤ item ∧ item ≤ 31 ∧ index < 4 then some (17 + (item - 16) * 4 + index)
  else if 32 ≤ item ∧ item ≤ 46 ∧ index < 8 then some (81 + (item - 32) * 8 + index)
  else none

/-- The stored value of an item (0 for an item the hub does not know). -/
def ConfigImage.item (img : ConfigImage) (item index : Nat) : Nat :=
  match itemPlace item index with
  | some k => (img.getD k 0).toNat
  | none => 0

/-- R182: the item takes the value as given; an item the hub does not know changes nothing. -/
def ConfigImage.write (img : ConfigImage) (item index : Nat) (v : BitVec 32) : ConfigImage :=
  match itemPlace item index with
  | some k => img.set k v
  | none => img

/-- R175: the default report mask, keep mask and selections 0 to 3. -/
def defaultReportMask : BitVec 32 :=
  eventSet [.portTripped, .openSuspect, .portShed, .powerDenied, .faultFound, .started]
def defaultKeepMask : BitVec 32 := eventSet [.started, .cellOver]
def defaultSelections : List (BitVec 32) :=
  [ eventSet [.portTripped, .openSuspect, .portShed, .powerDenied, .cellOver],
    eventSet [.linkDown, .linkDegraded, .trainingTimeout, .sweepDone, .faultFound],
    eventSet [.triggerGap, .triggerMissed, .senseOverrun, .exposeTimeout, .frameDropped,
      .storeTight],
    eventSet [.lensEndStop, .lensLost, .lensFrozen, .scanAborted, .started] ]

/-- The raw value the model uses for "none" in a line item: any value above 15 means none (R181);
16 is the model's choice (DESIGN CHOICE, log 5). -/
def rawNoLine : BitVec 32 := 16

/-- The default values of the hub-wide items 1 to 13 (R22, R42, R60, R103, R138, R175, R85). R175 speaks of
three masks and names two, as do items 10 and 11 of R181: the model holds those two (DESIGN CHOICE, log 51). -/
def defaultHubItems : ConfigImage :=
  [0, 500, 16, 2, 512, 28, 20, 150, 256, defaultReportMask, defaultKeepMask]
    ++ defaultSelections ++ [rawNoLine, rawNoLine]

/-- The default values of the port items 16 to 31, one for all four ports. The camera figure has no
default in the spec: raw 0, taken as 50 mA by R2 (DESIGN CHOICE, log 5). The ROI's default is none:
an x0 above x1 (R181; the raw values are the model's, log 5). -/
def defaultPortItems : ConfigImage :=
  [0, 0, 500, rawNoLine, 0, 0, 50, 200, 0, 0, 1, 0, 0, 0, 15000, 660]

/-- Section 4.3: the default parameters of an axis, in the order of the parameter table. -/
def defaultAxisItems : ConfigImage :=
  [0, 65535, 1024, 0, 64, 0, 0, 256, 256, 0, 200, 50, 500, 64, 32]

/-- R180, R181: the working copy of a defaulted image. -/
def defaultImage : ConfigImage :=
  defaultHubItems
    ++ defaultPortItems.flatMap (fun v => List.replicate 4 v)
    ++ defaultAxisItems.flatMap (fun v => List.replicate 8 v)

/-! ### The hub-wide plan, with the owning chapters' clamps (R180: clamped when the blocks take it) -/

/-- R22 -/
def ConfigImage.lensReserve (img : ConfigImage) : Nat := clampTo 0 3000 (img.item 1 0)
/-- R22 -/
def ConfigImage.cellBudget (img : ConfigImage) : Nat := clampTo 500 60000 (img.item 2 0)
/-- R42 -/
def ConfigImage.errHigh (img : ConfigImage) : Nat := clampTo 1 1000 (img.item 3 0)
/-- R42: an ERR_LOW greater than ERR_HIGH is taken as ERR_HIGH. -/
def ConfigImage.errLow (img : ConfigImage) : Nat :=
  min (clampTo 0 1000 (img.item 4 0)) img.errHigh
/-- R60 -/
def ConfigImage.dfreeze (img : ConfigImage) : Nat := clampTo 0 4095 (img.item 5 0)
/-- R103 -/
def ConfigImage.highMark (img : ConfigImage) : Nat := clampTo 1 31 (img.item 6 0)
/-- R103 -/
def ConfigImage.lowMark (img : ConfigImage) : Nat := min (img.item 7 0) (img.highMark - 1)
/-- R138 -/
def ConfigImage.threshold (img : ConfigImage) : Nat := clampTo 1 1000 (img.item 8 0)
/-- R138 -/
def ConfigImage.disturbLimit (img : ConfigImage) : Nat := clampTo 1 4095 (img.item 9 0)
/-- R175: whether an event stands in the report mask. -/
def ConfigImage.reported (img : ConfigImage) (e : EventName) : Bool :=
  (img.item 10 0).testBit e.index
/-- R175: whether an event stands in the keep mask. -/
def ConfigImage.kept (img : ConfigImage) (e : EventName) : Bool :=
  (img.item 11 0).testBit e.index
/-- R175, R179: whether selection i watches the event at an index of the event table. -/
def ConfigImage.watches (img : ConfigImage) (i index : Nat) : Bool :=
  (img.item 12 i).testBit index

/-- R85, R181: a line item, above 15 for none. -/
def lineOf (raw : Nat) : Option (Fin 16) :=
  if h : raw < 16 then some ⟨raw, h⟩ else none

/-- R85 -/
def ConfigImage.senseLine (img : ConfigImage) (input : Fin 2) : Option (Fin 16) :=
  lineOf (img.item 13 input.val)

/-! ### The plan of a port -/

/-- R1; R181 lists "no, yes", and a value outside is clamped into the list. -/
def ConfigImage.enabled (img : ConfigImage) (p : Port) : Bool := img.item 16 p.val != 0
/-- R2: below 50 taken as 50, above 1,500 as 1,500, between rounded up to a multiple of 50. -/
def ConfigImage.figure (img : ConfigImage) (p : Port) : Nat :=
  roundUp50 (clampTo 50 1500 (img.item 17 p.val))
/-- R1 -/
def ConfigImage.surcharge (img : ConfigImage) (p : Port) : Nat :=
  clampTo 0 1000 (img.item 18 p.val)
/-- R85 -/
def ConfigImage.subscribed (img : ConfigImage) (p : Port) : Option (Fin 16) :=
  lineOf (img.item 19 p.val)
/-- R85, µs -/
def ConfigImage.triggerDelay (img : ConfigImage) (p : Port) : Nat :=
  clampTo 0 65535 (img.item 20 p.val)
/-- R85: lens policy WAIT (else MARK). -/
def ConfigImage.policyWait (img : ConfigImage) (p : Port) : Bool := img.item 21 p.val != 0
/-- R85, ms -/
def ConfigImage.deferLimit (img : ConfigImage) (p : Port) : Nat :=
  clampTo 0 255 (img.item 22 p.val)
/-- R85, ms -/
def ConfigImage.exposeTimeout (img : ConfigImage) (p : Port) : Nat :=
  clampTo 10 1000 (img.item 23 p.val)
/-- R85: priority LOW (else HIGH). -/
def ConfigImage.lowPriority (img : ConfigImage) (p : Port) : Bool := img.item 24 p.val != 0
/-- R103 -/
def ConfigImage.autoRelease (img : ConfigImage) (p : Port) : Bool := img.item 25 p.val != 0

/-- R121: a region of interest, inclusive at both ends. -/
structure Roi where
  x0 : Nat
  x1 : Nat
  y0 : Nat
  y1 : Nat
deriving DecidableEq, Repr

/-- R121: an ROI with x0 above x1 or y0 above y1 is taken as none. -/
def ConfigImage.roi (img : ConfigImage) (p : Port) : Option Roi :=
  let x0 := clampTo 0 65535 (img.item 26 p.val)
  let x1 := clampTo 0 65535 (img.item 27 p.val)
  let y0 := clampTo 0 65535 (img.item 28 p.val)
  let y1 := clampTo 0 65535 (img.item 29 p.val)
  if x0 ≤ x1 ∧ y0 ≤ y1 then some ⟨x0, x1, y0, y1⟩ else none

/-- R138, mm -/
def ConfigImage.cableLength (img : ConfigImage) (p : Port) : Nat :=
  clampTo 1000 100000 (img.item 30 p.val)
/-- R138, per-mille -/
def ConfigImage.velocity (img : ConfigImage) (p : Port) : Nat :=
  clampTo 500 900 (img.item 31 p.val)

/-! ### Axis parameters (section 4.3) -/

/-- The fifteen parameters of an axis. The shadow set holds them as written, the loaded set as
clamped by R62. -/
structure ParamSet where
  lo : Nat
  hi : Nat
  vmax : Nat
  vstart : Nat
  vstop : Nat
  vbreak : Nat
  astart : Nat
  amax : Nat
  dmax : Nat
  dfinal : Nat
  moveMA : Nat
  holdMA : Nat
  holdTime : Nat
  varLimit : Nat
  followTol : Nat
deriving DecidableEq, Repr

/-- 12.2: parameters are numbered from 0 in the order of the table; 15 or more is unknown. -/
def ParamSet.write (q : ParamSet) (n v : Nat) : ParamSet :=
  match n with
  | 0 => { q with lo := v }
  | 1 => { q with hi := v }
  | 2 => { q with vmax := v }
  | 3 => { q with vstart := v }
  | 4 => { q with vstop := v }
  | 5 => { q with vbreak := v }
  | 6 => { q with astart := v }
  | 7 => { q with amax := v }
  | 8 => { q with dmax := v }
  | 9 => { q with dfinal := v }
  | 10 => { q with moveMA := v }
  | 11 => { q with holdMA := v }
  | 12 => { q with holdTime := v }
  | 13 => { q with varLimit := v }
  | 14 => { q with followTol := v }
  | _ => q

/-- The parameters as a list, numbered as in LENS_SET_PARAM. -/
def ParamSet.values (q : ParamSet) : List Nat :=
  [q.lo, q.hi, q.vmax, q.vstart, q.vstop, q.vbreak, q.astart, q.amax, q.dmax, q.dfinal,
    q.moveMA, q.holdMA, q.holdTime, q.varLimit, q.followTol]

/-- R62: loading applies the clamps of section 4.3 in the order of the parameter table. -/
def ParamSet.load (q : ParamSet) : ParamSet :=
  let lo := min q.lo 65535
  let hi := min q.hi 65535
  let vmax := clampTo 1 32767 q.vmax
  let moveMA := min q.moveMA 1500
  { lo := min lo hi
    hi := max lo hi
    vmax := vmax
    vstart := min q.vstart vmax
    vstop := clampTo 1 vmax q.vstop
    vbreak := min q.vbreak vmax
    astart := min q.astart 4095
    amax := clampTo 1 4095 q.amax
    dmax := clampTo 1 4095 q.dmax
    dfinal := min q.dfinal 4095
    moveMA := moveMA
    holdMA := min q.holdMA moveMA
    holdTime := min q.holdTime 2000
    varLimit := min q.varLimit 65535
    followTol := min q.followTol 65535 }

/-- 12.2: an axis number is port × 2, plus 1 for IRIS. -/
def axisNumber (a : AxisId) : Nat :=
  a.port.val * 2 + (match a.name with | .focus => 0 | .iris => 1)

/-- R59, R181: an axis's parameters as the image gives them, unclamped. -/
def ConfigImage.params (img : ConfigImage) (a : AxisId) : ParamSet :=
  let v (n : Nat) := img.item (32 + n) (axisNumber a)
  { lo := v 0, hi := v 1, vmax := v 2, vstart := v 3, vstop := v 4, vbreak := v 5, astart := v 6,
    amax := v 7, dmax := v 8, dfinal := v 9, moveMA := v 10, holdMA := v 11, holdTime := v 12,
    varLimit := v 13, followTol := v 14 }

end Sys2Proof.Machine
end

