-- ==== Sys2Proof/Machine/Records.lean ====
section
/-! DEFINITION. The records the hub's blocks keep, each as the rule that names it lists its fields. -/

namespace Sys2Proof.Machine

/-! ### Port power unit (chapter 1) -/

inductive PowerState where
  | off
  | claiming
  | inrush
  | on
deriving DecidableEq, Repr

/-- A port is powered when its switch is closed: in INRUSH and ON (section 1.1). -/
def PowerState.powered : PowerState → Bool
  | .off => false
  | .claiming => false
  | .inrush => true
  | .on => true

/-- R14, R15: what a retained-lockout record says. -/
inductive LockMark where
  | set
  | clear
deriving DecidableEq, Repr

/-- R1, R2: the power part of a port record. Enabled and the surge surcharge are read from the image
in force. -/
structure PowerPart where
  state : PowerState
  closed : Bool
  figure : Nat
  volatileLock : Bool
  retainedLock : Bool
  pendingRecord : Option LockMark
  clean : Bool
  latest : Nat
  history : List Nat
  overdraw : Nat
  undercurrent : Nat
  correctionPending : Bool
  tripCount : Nat
  inrushLeft : Option Nat
deriving DecidableEq, Repr

/-! ### Power claim unit and cell view (chapter 2) -/

/-- R24: POWER_ON, or CORRECTION with its correction figure. -/
inductive ClaimKind where
  | powerOn
  | correction (figure : Nat)
deriving DecidableEq, Repr

/-- R24 -/
structure ClaimReq where
  port : Port
  kind : ClaimKind
  attempts : Nat
deriving DecidableEq, Repr

/-- R22, R26: a composed CLAIM with the request it came from; its lifetime is always 100 ms. A request
in flight that is withdrawn (R6, R17, R19), or whose port has lost its power (R11), is marked: its outcome
is the one of R29 (log 36). -/
structure ClaimInFlight where
  req : ClaimReq
  standing : Nat
  surge : Nat
  withdrawn : Bool
deriving DecidableEq, Repr

/-- R22. "STANDING queued" is read from the transmit queue. -/
structure ClaimUnit where
  granted : Nat
  reserveHeld : Bool
  queue : List ClaimReq
  inFlight : Option ClaimInFlight
  backoff : Option Nat
  settle : Option Nat
  refreshLeft : Nat
  standingWanted : Bool
deriving DecidableEq, Repr

/-- R33: surge and its expiry are absent or present together. -/
structure Surge where
  amount : Nat
  expiry : Nat
deriving DecidableEq, Repr

/-- R33 -/
structure CellEntry where
  station : Nat
  standing : Nat
  surge : Option Surge
  lastHeard : Nat
  stale : Bool
deriving DecidableEq, Repr

/-! ### Port link (chapter 3) -/

inductive LinkState where
  | dark
  | training
  | up
  | degraded
  | down
deriving DecidableEq, Repr

/-- Frames, reports and commands pass in UP and DEGRADED (section 3.1). -/
def LinkState.passes : LinkState → Bool
  | .dark => false
  | .training => false
  | .up => true
  | .degraded => true
  | .down => false

/-- Section 3.6 -/
inductive LinkTime where
  | free
  | piece
  | abandoning
deriving DecidableEq, Repr

/-- R52: whether a frame is open, or being discarded to its end. -/
inductive FrameGate where
  | none
  | opened
  | discarding
deriving DecidableEq, Repr

/-- R42, with the frame gate of R52, the resumption check of R44, and whether an axis has entered WAIT_LINK
in the piece that runs, which ends it (R57). -/
structure LinkPart where
  state : LinkState
  trainUsed : Nat
  awaited : Bool
  timeouts : Nat
  windowCount : Nat
  windowLeft : Option Nat
  highRun : Nat
  cleanRun : Nat
  lastWindow : Option Nat
  unasked : Nat
  time : LinkTime
  waitEntered : Bool
  heldExpose : Bool
  gate : FrameGate
  resumeLeft : Option Nat
deriving DecidableEq, Repr

/-! ### Lens axes (chapter 4) -/

/-- Section 4.1, in that order. -/
inductive AxisState where
  | offline
  | rest
  | waitPower
  | waitLink
  | waitExposure
  | moving
  | stopping
  | holding
  | stoppedEnd
  | frozen
  | lost
deriving DecidableEq, Repr

/-- R59: an axis is powered-moving while it is MOVING or STOPPING. -/
def AxisState.poweredMoving : AxisState → Bool
  | .moving => true
  | .stopping => true
  | _ => false

/-- An axis in one of the three waits. -/
def AxisState.waiting : AxisState → Bool
  | .waitPower => true
  | .waitLink => true
  | .waitExposure => true
  | _ => false

/-- R59: direction, and the two ends: NEAR is toward count 0 (−1), FAR toward 65,535 (+1). -/
inductive EndSide where
  | near
  | far
deriving DecidableEq, Repr

inductive StopKind where
  | command
  | guard
deriving DecidableEq, Repr

/-- R59: of the move in progress or waiting; after it, the value stays (DEDUCED, log 53). -/
inductive MoveSource where
  | command
  | scan
deriving DecidableEq, Repr

/-- R59 -/
structure AxisRec where
  state : AxisState
  p : Nat
  v : Nat
  dir : EndSide
  t : Nat
  vmaxe : Option Nat
  allowance : Nat
  stopKind : Option StopKind
  activeEnd : Option EndSide
  hold : Option Nat
  source : MoveSource
  last : Option HeadReport
  sinceFreeze : Bool
  bad : Nat
  follow : Nat
  params : ParamSet
  shadow : ParamSet
  staged : Bool
deriving DecidableEq, Repr

/-- R60. The reserve amount and DFREEZE are read from reserve held and the image in force. -/
structure LensHub where
  waitList : List AxisId
  guardActive : Bool
  updatePhase : Nat
deriving DecidableEq, Repr

/-! ### Trigger unit and exposure machines (chapter 5) -/

/-- R85 -/
structure LineEntry where
  last : Nat
  valid : Bool
  staleRun : Nat
  staleCount : Nat
deriving DecidableEq, Repr

/-- R85 -/
inductive SensePending where
  | absent
  | queued
  | sending
deriving DecidableEq, Repr

/-- R85. The configured line is read from the image in force. -/
structure SenseInput where
  pending : SensePending
  overrun : Nat
deriving DecidableEq, Repr

/-- R90, R99: a scan capture's origin, and whether its frame is to be kept (R105, R137). -/
structure Capture where
  run : Nat
  step : Nat
  pass : Nat
  keep : Bool
deriving DecidableEq, Repr

/-- R90 -/
inductive Origin where
  | line (line sequence : Nat)
  | scan (c : Capture)
deriving DecidableEq, Repr

inductive ExposureState where
  | idle
  | delaying
  | deferred
  | exposing
  | receiving
deriving DecidableEq, Repr

/-- R90: FOCUS and IRIS positions in counts. -/
structure Positions where
  focus : Nat
  iris : Nat
deriving DecidableEq, Repr

/-- R90 -/
structure Exposure where
  state : ExposureState
  origin : Option Origin
  takenAt : Option Nat
  timer : Option Nat
  sentAt : Option Nat
  positions : Option Positions
  movingMark : Bool
  held : Option Capture
  taken : Nat
  timeouts : Nat
deriving DecidableEq, Repr

/-- R100, in the order of that table. -/
inductive MissReason where
  | lockedOut
  | portNotUp
  | scanActive
  | overrun
  | storeTight
  | noFrame
  | storeFull
deriving DecidableEq, Repr

/-- R100 -/
structure Missed where
  number : Nat
  origin : Origin
  port : Port
  reason : MissReason
  time : Nat
deriving DecidableEq, Repr

/-- R85 -/
structure TriggerUnit where
  lines : List LineEntry
  sense0 : SenseInput
  sense1 : SenseInput
  missed : List Missed
  nextRecord : Nat
  dropped : Nat
deriving DecidableEq, Repr

/-! ### Frame store and frame out link (chapter 6) -/

/-- R104, in that order. -/
inductive SlotState where
  | free
  | filling
  | ready
  | sending
  | sent
  | releasePending
deriving DecidableEq, Repr

/-- R104. The byte count is the number of pixel bytes held. -/
structure SlotRecord where
  port : Port
  origin : Origin
  frameNumber : Nat
  format : PixelFormat
  width : Nat
  height : Nat
  pixels : List Byte
  captureTime : Nat
  positions : Positions
  metric : Option Nat
  sendNumber : Nat
  truncated : Bool
  linkErrors : Bool
  lensMoving : Bool
  scanFrame : Bool
  metricPartial : Bool
deriving DecidableEq, Repr

/-- R104: a FREE slot has no record. -/
structure Slot where
  state : SlotState
  record : Option SlotRecord
deriving DecidableEq, Repr

/-- R103. The frame counters stand in the port records; occupancy is counted from the slot map. -/
structure FrameStore where
  slots : List Slot
  outQueue : List Nat
  tight : Bool
  dropCount : Nat
  truncatedCount : Nat
deriving DecidableEq, Repr

inductive OutLinkState where
  | absent
  | aligning
  | up
deriving DecidableEq, Repr

/-- R111 -/
inductive SendPart where
  | record
  | pixels
deriving DecidableEq, Repr

/-- R111 -/
structure Send where
  slot : Nat
  part : SendPart
  bytesSent : Nat
  paused : Bool
deriving DecidableEq, Repr

/-- R111, with the termination on the two lanes. -/
structure OutLink where
  state : OutLinkState
  alignLeft : Option Nat
  ready : Bool
  terminated : Bool
  send : Option Send
  begun : Nat
  givenUp : Nat
deriving DecidableEq, Repr

/-! ### Metric unit and scan sequencer (chapter 7) -/

/-- R121, R122 -/
inductive ClippedRoi where
  | absent
  | empty
  | area (r : Roi)
deriving DecidableEq, Repr

/-- R121, with the frame's width and pixel format, and the place of the raster: the row in hand, the next
column of the ROI expected in it (beyond the width once the last pixel of the row has been handed on), and
the normalised value of the pixel before. -/
structure Metric where
  active : Bool
  clip : ClippedRoi
  sum : Nat
  rows : Nat
  rowSum : Nat
  intact : Bool
  partialMark : Bool
  scanFrame : Bool
  row : Option Nat
  nextCol : Nat
  prev : Nat
  width : Nat
  format : PixelFormat
deriving DecidableEq, Repr

/-- R123: a metric or none, with the partial mark. -/
structure MetricResult where
  metric : Option Nat
  partialMark : Bool
deriving DecidableEq, Repr

/-- Section 7.2, in that order. -/
inductive LoaderState where
  | empty
  | loading
  | loaded
  | aborted
  | running
  | done
  | cancelled
deriving DecidableEq, Repr

inductive EndAction where
  | stay
  | goBack
  | best
deriving DecidableEq, Repr

/-- R124 -/
structure ScanHeader where
  count : Nat
  passes : Nat
  endAction : EndAction
  storeFrames : Bool
deriving DecidableEq, Repr

/-- R124: one step of the program. -/
structure ScanStep where
  index : Nat
  focus : Nat
  iris : Option Nat
  captures : Nat
  settle : Nat
deriving DecidableEq, Repr

inductive RunPhase where
  | stepMove
  | settle
  | capture
  | endMove
deriving DecidableEq, Repr

/-- R133, in the order of that table. -/
inductive CancelReason where
  | command
  | frozen
  | lost
  | endStop
  | linkLost
  | powerOff
  | noFrame
  | moveRefused
deriving DecidableEq, Repr

/-- R127 -/
inductive AbortDetail where
  | begun
  | outOfOrder (expected received : Nat)
  | run
deriving DecidableEq, Repr

/-- R135 -/
inductive RunState where
  | none
  | running
  | done
  | cancelled
deriving DecidableEq, Repr

/-- R135: one entry of the per-step list; the mean follows from it. -/
structure StepTally where
  sum : Nat
  number : Nat
  partials : Nat
deriving DecidableEq, Repr

/-- R135. Means, best step and best mean follow from the per-step list. -/
structure ScanResult where
  state : RunState
  reason : Option CancelReason
  loadedAction : EndAction
  takenAction : EndAction
  noMetric : Bool
  count : Nat
  passes : Nat
  passReached : Nat
  stepReached : Nat
  captures : Nat
  tallies : List StepTally
deriving DecidableEq, Repr

/-- R124 -/
structure Scan where
  loader : LoaderState
  header : Option ScanHeader
  expected : Option Nat
  program : List ScanStep
  phase : Option RunPhase
  pass : Option Nat
  step : Option Nat
  counter : Nat
  settleLeft : Option Nat
  toLand : List AxisName
  back : Option Positions
  result : ScanResult
  runNumber : Nat
deriving DecidableEq, Repr

/-! ### Cable fault locator (chapter 8) -/

inductive SweepKind where
  | live
  | dark
deriving DecidableEq, Repr

/-- R139 -/
inductive SweepSource where
  | command
  | trip
  | undercurrent
  | training
  | degraded
  | liveResult
deriving DecidableEq, Repr

/-- R139 -/
inductive EntryStatus where
  | waiting
  | gathering
  | formed
  | running
  | setAside
deriving DecidableEq, Repr

/-- R139 -/
structure WorkEntry where
  port : Port
  kind : SweepKind
  sources : List SweepSource
  arrival : Nat
  status : EntryStatus
deriving DecidableEq, Repr

/-- R138: sums S, number N, last accepted trace, rejection run; and, for a dark sweep, the
acquisitions completed so far (R149). -/
structure SweepRec where
  sums : List Int
  n : Nat
  last : Option Trace
  rejections : Nat
  completed : Nat
deriving DecidableEq, Repr

/-- R138, R152: a live session; `due` when its deadline has expired while it could not end. -/
structure Session where
  port : Port
  sweep : SweepRec
  deadline : Nat
  due : Bool
deriving DecidableEq, Repr

/-- R138, R146: the engine state with its current work. In a batch, the ports whose results are
written, the port being swept, and those still to come. In a piece, the acquisitions launched and
whether one is under way. -/
inductive Engine where
  | idle
  | calibratingBatch (ports : List Port)
  | calibratingSession (se : Session)
  | darkRun (finished : List Port) (port : Port) (toCome : List Port) (sweep : SweepRec)
  | waitingGap (se : Session)
  | piece (se : Session) (launched : Nat) (underWay : Bool)
deriving DecidableEq, Repr

/-- R147 -/
structure Calibration where
  q : List Int
  l : Int
  z : Int
deriving DecidableEq, Repr

/-- R138 -/
structure Gathering where
  ports : List Port
  windowLeft : Nat
deriving DecidableEq, Repr

/-- R155, in that order. -/
inductive SweepClass where
  | none
  | opened
  | short
  | step
  | noEnd
  | incomplete
  | cancelled
deriving DecidableEq, Repr

/-- R155 -/
structure SweepResult where
  kind : Option SweepKind
  cls : SweepClass
  distance : Option Nat
  rho : Option Int
  used : Nat
  shortAveraged : Bool
  disturbed : Bool
  endSeen : Bool
  time : Nat
deriving DecidableEq, Repr

/-- R138 -/
structure Locator where
  work : List WorkEntry
  gathering : Option Gathering
  formed : List (List Port)
  engine : Engine
  setAside : Option Session
  calibration : Option Calibration
deriving DecidableEq, Repr

/-! ### The port record (00_scope.md: everything that belongs to one port meets in it) -/

structure PortRec where
  power : PowerPart
  link : LinkPart
  focus : AxisRec
  iris : AxisRec
  exposure : Exposure
  frameCounter : Nat
  metric : Metric
  scan : Scan
  sweep : SweepResult
deriving DecidableEq, Repr

def PortRec.axis (r : PortRec) : AxisName → AxisRec
  | .focus => r.focus
  | .iris => r.iris

def PortRec.setAxis (r : PortRec) (n : AxisName) (x : AxisRec) : PortRec :=
  match n with
  | .focus => { r with focus := x }
  | .iris => { r with iris := x }

/-! ### Command unit and event unit (chapter 10) -/

/-- R169 -/
structure Received where
  head : CmdHead
  cmd : Cmd
deriving DecidableEq, Repr

inductive UnitState where
  | ready
  | replying
  | restarting
deriving DecidableEq, Repr

/-- Section 10.3 -/
inductive Status where
  | done
  | accepted
  | refused
deriving DecidableEq, Repr

/-- Section 10.3: the refusal reasons, and a state name of the block it belongs to. -/
inductive Reason where
  | none
  | badArgument
  | overflow
  | portDisabled
  | lockedOut
  | sweepPending
  | notClean
  | scanActive
  | atEnd
  | guardActive
  | loaderAborted
  | notLoading
  | noProgram
  | slotBusy
  | slotFree
  | portPowered
  | sweepRunning
  | storeBusy
  | axis (st : AxisState)
  | link (st : LinkState)
  | power (st : PowerState)
deriving DecidableEq, Repr

/-- R173: one part of a reply. -/
structure Reply where
  target : BitVec 4
  tag : Byte
  code : Byte
  status : Status
  reason : Reason
  flags : BitVec 4
  part : Nat
  lastPart : Bool
  truncated : Bool
  results : List Byte
deriving DecidableEq, Repr

/-- R169 -/
structure CommandUnit where
  buffer : List Received
  unit : UnitState
  parts : List Reply
  taken : Nat
  overflows : Nat
deriving DecidableEq, Repr

/-- R88, R89, R164: why a sense edge was dropped. -/
inductive OverrunCause where
  | pending
  | mute
  | queueFull
deriving DecidableEq, Repr

/-- R184: the start record. -/
structure StartRecord where
  cause : StartCause
  imageDefaulted : Bool
  imageTorn : Bool
  station15 : Bool
  storeTorn : Four Bool
  generation : Option Nat
deriving DecidableEq, Repr

/-- The details of the event table (10.5). -/
inductive Detail where
  | nothing
  | tripSample (mA : Nat)
  | tripInrush
  | figure (mA : Nat)
  | attempts
  | withdrawn
  | total (mA : Nat)
  | trained
  | recovered
  | head
  | stream
  | window (count : Nat)
  | timeouts (count : Nat)
  | gap (line count : Nat) (resync : Bool)
  | missed (reason : MissReason)
  | overrun (input : Fin 2) (cause : OverrunCause)
  | origin (o : Origin)
  | frame (number : Nat)
  | occupancy (slots : Nat)
  | lensDone (axis counts : Nat) (stopped : Bool)
  | endStop (axis : Nat) (side : EndSide)
  | lensLost (axis : Nat) (following : Bool)
  | lensFrozen (axis : Nat)
  | scanDone (reason : Option CancelReason)
  | scanAborted (why : AbortDetail)
  | sweep (kind : SweepKind) (cls : SweepClass)
  | fault (cls : SweepClass) (distance : Nat)
  | start (r : StartRecord)
deriving DecidableEq, Repr

/-- R175 -/
structure EventEntry where
  latched : Bool
  port : Option Port
  detail : Option Detail
  time : Nat
  count : Nat
deriving DecidableEq, Repr

/-- R177: what a REPORT carries. -/
structure Report where
  event : EventName
  port : Option Port
  detail : Detail
  time : Nat
  count : Nat
deriving DecidableEq, Repr

/-! ### Cell line interface (chapter 9) -/

/-- R160: a notice of the hub's own. A TRIGGER's sequence number and a STANDING's value are fixed as
the attempt begins; a CLAIM's fields are those of the claim in flight. -/
inductive TxBody where
  | trigger (input : Fin 2) (line : Nat) (sequence : Option Nat)
  | claim
  | standing (value : Option Nat)
  | reply (r : Reply)
  | report (r : Report)
deriving DecidableEq, Repr

/-- R165: a notice in the transmit queue, and whether it is in an attempt. -/
structure TxItem where
  body : TxBody
  sending : Bool
deriving DecidableEq, Repr

inductive TxState where
  | ready
  | attempt
  | mute (left : Nat)
deriving DecidableEq, Repr

/-- R166: the held REPLY: the first of the parts waiting, or an OVERFLOW REPLY (R171). -/
inductive HeldReply where
  | part
  | overflow (r : Reply)
deriving DecidableEq, Repr

/-- R159 -/
structure LineCounters where
  rxErrors : Nat
  undefinedKinds : Nat
  sameNumber : Nat
  arbLosses : Nat
  txFailures : Nat
  mutes : Nat
  reportsNotSent : Nat
  repliesNotSent : Nat
deriving DecidableEq, Repr

/-- R159; `receiving`, R160, R161, R167: the hub is within a notice of another station that it has followed
from its start bit (log 40). -/
structure LineIf where
  idle : Nat
  receiving : Bool
  tx : TxState
  queue : List TxItem
  held : Option HeldReply
  failureRun : Nat
  counters : LineCounters
deriving DecidableEq, Repr

/-- R158: a notice as it stands on the line. -/
structure WireNotice where
  kind : BitVec 3
  sender : BitVec 4
  target : BitVec 4
  payload : List Byte
deriving DecidableEq, Repr

/-! ### Configuration store (chapter 11) -/

/-- R180: a place is blank, torn, or valid with its copy. -/
inductive Place (α : Type) where
  | blank
  | torn
  | valid (copy : α)
deriving DecidableEq, Repr

/-- Section 11.1 -/
structure ImageCopy where
  generation : Nat
  items : ConfigImage
deriving DecidableEq, Repr

/-- Section 11.1 -/
structure LockCopy where
  mark : LockMark
  serial : Nat
deriving DecidableEq, Repr

/-- Two places of one thing. -/
structure Places (α : Type) where
  first : Place α
  second : Place α
deriving DecidableEq, Repr

/-- Section 11.1: the 4 KiB of non-volatile memory. -/
structure Nonvolatile where
  image : Places ImageCopy
  locks : Four (Places LockCopy)
deriving DecidableEq, Repr

/-- R183 -/
inductive StoreOp where
  | image (copy : ImageCopy)
  | lock (port : Port) (mark : LockMark)
deriving DecidableEq, Repr

/-- R183: an operation in flight: what its place will hold, and which place (the second, or the
first). -/
inductive StoreWrite where
  | image (copy : ImageCopy) (second : Bool)
  | lock (port : Port) (copy : LockCopy) (second : Bool)
deriving DecidableEq, Repr

/-- R182, R183 -/
structure ConfigStore where
  working : ConfigImage
  inForce : ConfigImage
  queue : List StoreOp
  inFlight : Option StoreWrite
  lastGeneration : Option Nat
  newestWritten : Option Nat
deriving DecidableEq, Repr

/-! ### What the hub does on its outputs -/

/-- The hub's outputs in the course of one command (log 26). -/
inductive Out where
  /-- R162, R168: the trailer slots the hub drove for a notice it received. -/
  | trailer (heard flaw hold : Bool)
  /-- R160: an attempt put this notice on the line. -/
  | notice (n : WireNotice)
  /-- R161, R163, R159: the hub released the line within its own notice. -/
  | lineReleased
  /-- R72: a setpoint in counts on the control lane. -/
  | setpoint (axis : AxisId) (counts : Nat)
  /-- R93: an expose command on the control lane. -/
  | exposeCommand (port : Port)
  /-- R45, R46, R55: the training pattern starts or stops. -/
  | pattern (port : Port) (sending : Bool)
  /-- R55: a QUIET request of 2 ms. -/
  | quiet (port : Port)
  /-- R55: a QUIET release. -/
  | quietRelease (port : Port)
  /-- R148: the stimulus is launched into a port's cable. -/
  | stimulus (port : Port)
  /-- R147: calibration acquisitions begin on the internal reference. -/
  | calibrating
  /-- R111: the alignment pattern of the frame out link. -/
  | alignment
  /-- R112: a frame record and, after it, this many bytes of pixel data. -/
  | frameRecord (bytes : List Byte) (pixelBytes : Nat)
  /-- R113: a paused send goes on from this byte. -/
  | resumed (slot fromByte : Nat)
  /-- R115, R120: a transfer breaks off. -/
  | givenUp (slot : Nat)
deriving DecidableEq, Repr

end Sys2Proof.Machine
end

