-- ==== Sys2Proof/Machine/StartValues.lean ====
section
/-! DEFINITION. The start value of every piece of state (R184, step 4: "the start value given where that state is specified"). -/

namespace Sys2Proof.Machine

/-- R1, R2 -/
def startPower (img : ConfigImage) (p : Port) (retained : Bool) : PowerPart :=
  { state := .off, closed := false, figure := img.figure p, volatileLock := false,
    retainedLock := retained, pendingRecord := none, clean := false, latest := 0, history := [],
    overdraw := 0, undercurrent := 0, correctionPending := false, tripCount := 0,
    inrushLeft := none }

/-- R22, R40 -/
def startClaims : ClaimUnit :=
  { granted := 0, reserveHeld := false, queue := [], inFlight := none, backoff := none,
    settle := some Config.settleUs, refreshLeft := Config.refreshUs, standingWanted := false }

/-- R33: at start the view holds the own entry alone, with standing 0, no surge and status PRESENT. It was
last heard at the hub time of the start (DESIGN CHOICE, log 39: R33 gives no value). -/
def startView (station now : Nat) : List CellEntry :=
  [{ station := station, standing := 0, surge := none, lastHeard := now, stale := false }]

/-- R42 -/
def startLink : LinkPart :=
  { state := .dark, trainUsed := 0, awaited := false, timeouts := 0, windowCount := 0,
    windowLeft := none, highRun := 0, cleanRun := 0, lastWindow := none, unasked := 0,
    time := .free, waitEntered := false, heldExpose := false, gate := .none, resumeLeft := none }

/-- R59 -/
def startAxis (img : ConfigImage) (a : AxisId) : AxisRec :=
  { state := .offline, p := 0, v := 0, dir := .far, t := 0, vmaxe := none, allowance := 0,
    stopKind := none, activeEnd := none, hold := none, source := .command, last := none,
    sinceFreeze := false, bad := 0, follow := 0, params := (img.params a).load,
    shadow := img.params a, staged := false }

/-- R60 -/
def startLens (guardActive : Bool) : LensHub :=
  { waitList := [], guardActive := guardActive, updatePhase := 0 }

/-- R85 -/
def startLine : LineEntry := { last := 0, valid := false, staleRun := 0, staleCount := 0 }

/-- R85 -/
def startTriggers : TriggerUnit :=
  { lines := List.replicate 16 startLine, sense0 := ⟨.absent, 0⟩, sense1 := ⟨.absent, 0⟩,
    missed := [], nextRecord := 0, dropped := 0 }

/-- R90 -/
def startExposure : Exposure :=
  { state := .idle, origin := none, takenAt := none, timer := none, sentAt := none,
    positions := none, movingMark := false, held := none, taken := 0, timeouts := 0 }

/-- R104: a FREE slot has no record. -/
def freeSlot : Slot := ⟨.free, none⟩

/-- R103, R120 -/
def startFrames : FrameStore :=
  { slots := List.replicate 32 freeSlot, outQueue := [], tight := false, dropCount := 0,
    truncatedCount := 0 }

/-- R111, R120: the link starts ABSENT; with termination present on both lanes it enters ALIGNING in
that event (R111). -/
def startOutLink (ready terminated : Bool) : OutLink :=
  { state := if terminated then .aligning else .absent,
    alignLeft := if terminated then some Config.alignUs else none,
    ready := ready, terminated := terminated, send := none, begun := 0, givenUp := 0 }

/-- R121. The width, the format and the raster place before any frame are the model's: 0, 8 bits and no row
(DESIGN CHOICE, log 4). -/
def startMetric : Metric :=
  { active := false, clip := .absent, sum := 0, rows := 0, rowSum := 0, intact := true,
    partialMark := false, scanFrame := false, row := none, nextCol := 0, prev := 0,
    width := 0, format := .bits8 }

/-- R135: no run since start. The spec gives the run state NONE alone: the other fields are the model's
(DESIGN CHOICE, log 42). -/
def noRun : ScanResult :=
  { state := .none, reason := none, loadedAction := .stay, takenAction := .stay, noMetric := false,
    count := 0, passes := 0, passReached := 0, stepReached := 0, captures := 0, tallies := [] }

/-- R124 -/
def startScan : Scan :=
  { loader := .empty, header := none, expected := none, program := [], phase := none, pass := none,
    step := none, counter := 0, settleLeft := none, toLand := [], back := none, result := noRun,
    runNumber := 0 }

/-- R155: no result since start. The spec gives the kind as absent alone: the other fields are the model's
(DESIGN CHOICE, log 45). -/
def noSweep : SweepResult :=
  { kind := none, cls := .none, distance := none, rho := none, used := 0, shortAveraged := false,
    disturbed := false, endSeen := false, time := 0 }

/-- R138 -/
def startLocator : Locator :=
  { work := [], gathering := none, formed := [], engine := .idle, setAside := none,
    calibration := none }

/-- The port record at start. -/
def startPort (img : ConfigImage) (retained : Bool) (p : Port) : PortRec :=
  { power := startPower img p retained, link := startLink,
    focus := startAxis img ⟨p, .focus⟩, iris := startAxis img ⟨p, .iris⟩,
    exposure := startExposure, frameCounter := 0, metric := startMetric, scan := startScan,
    sweep := noSweep }

/-- R159 -/
def startCounters : LineCounters :=
  { rxErrors := 0, undefinedKinds := 0, sameNumber := 0, arbLosses := 0, txFailures := 0,
    mutes := 0, reportsNotSent := 0, repliesNotSent := 0 }

/-- R159 -/
def startLineIf : LineIf :=
  { idle := 0, receiving := false, tx := .ready, queue := [], held := none, failureRun := 0,
    counters := startCounters }

/-- R169 -/
def startCommands : CommandUnit :=
  { buffer := [], unit := .ready, parts := [], taken := 0, overflows := 0 }

/-- R175: an entry as it starts. The spec gives its hub time no value there: 0 is the model's
(DESIGN CHOICE, log 43). -/
def clearedEntry : EventEntry :=
  { latched := false, port := none, detail := none, time := 0, count := 0 }

/-- R175 -/
def startEvents : List EventEntry := List.replicate 25 clearedEntry

/-- R182, R184: the working copy is set equal to the image chosen, or to the defaults. -/
def startStore (img : ConfigImage) (generation : Option Nat) : ConfigStore :=
  { working := img, inForce := img, queue := [], inFlight := none, lastGeneration := generation,
    newestWritten := none }

/-- R180: a store that has never been written. -/
def blankStore : Nonvolatile :=
  { image := ⟨.blank, .blank⟩, locks := Four.all ⟨.blank, .blank⟩ }

end Sys2Proof.Machine
end

