-- ==== Sys2Proof/Machine/State.lean ====
section
/-! DEFINITION. The hub's state as plain data, the outcomes' reasons, and the state right after reset. -/

namespace Sys2Proof.Machine

/-- The whole hub. Every field is plain data; what the spec names and this record does not list is a
function of these fields (INVENTORY.md, "derived"). -/
structure State where
  /-- R183, R184: the supplies are valid. -/
  supplied : Bool
  /-- R184: the levels of the four station straps. -/
  straps : BitVec 4
  /-- R184: the station number. -/
  station : Nat
  /-- 12: the free-running microsecond counter. -/
  hubTime : Nat
  /-- The model's own: how many free values have been drawn (log 35). -/
  freeCount : Nat
  ports : Four PortRec
  claims : ClaimUnit
  view : List CellEntry
  lens : LensHub
  triggers : TriggerUnit
  frames : FrameStore
  outLink : OutLink
  locator : Locator
  line : LineIf
  commands : CommandUnit
  events : List EventEntry
  nv : Nonvolatile
  store : ConfigStore
  /-- The model's own: what the hub did on its outputs in the latest command (log 26). -/
  out : List Out
  /-- The commands that wait, the next one first. -/
  pending : List Instr
deriving DecidableEq, Repr

/-- The hub stops with no fault: what the spec calls a fault of a cable, a notice or a lens is a state
that the hub goes on from. No constructor, so no command ends in one. -/
inductive Fault where
deriving DecidableEq, Repr

/-- Why a command has no meaning. -/
inductive Refusal where
  /-- Raised by no command of this model: every row has its meaning. It is safe (the model stops where
  the hub goes on). -/
  | notModelled (mnemonic : String)
deriving DecidableEq, Repr

/-- R184: the start record of a power-on with a store that has never been written. -/
def resetStartRecord : StartRecord :=
  { cause := .powerOn, imageDefaulted := true, imageTorn := false, station15 := false,
    storeTorn := Four.all false, generation := none }

/-- The machine right after reset: power-on start (R184) of a hub whose store has never been written,
with the straps at 0, GUARD inactive, FRDY low and no grabber connected (log 4). The STANDING of 0
waits in the transmit queue, and after it the REPORT of STARTED (R177). -/
def State.reset : State :=
  { supplied := true
    straps := 0
    station := 0
    hubTime := 0
    freeCount := 0
    ports := ⟨startPort defaultImage false 0, startPort defaultImage false 1,
      startPort defaultImage false 2, startPort defaultImage false 3⟩
    claims := startClaims
    view := startView 0 0
    lens := startLens false
    triggers := startTriggers
    frames := startFrames
    outLink := startOutLink false false
    locator := startLocator
    line := { startLineIf with
      queue := [⟨.standing none, false⟩,
        ⟨.report ⟨.started, none, .start resetStartRecord, 0, 1⟩, false⟩] }
    commands := startCommands
    events := List.replicate 24 clearedEntry ++
      [{ latched := true, port := none, detail := some (.start resetStartRecord), time := 0,
         count := 1 }]
    nv := blankStore
    store := startStore defaultImage none
    out := []
    pending := [] }

end Sys2Proof.Machine
end

