-- ==== Sys2Proof/Machine/Ops.lean ====
section
/-! DEFINITION. The named operations over the hub's state that every block shares: port and axis access, the transmit queue, the event unit's latch and the cell view. -/

namespace Sys2Proof.Machine

/-! ### Ports and axes -/

def State.port (s : State) (p : Port) : PortRec := s.ports.get p

def State.setPort (s : State) (p : Port) (r : PortRec) : State :=
  { s with ports := s.ports.set p r }

def State.modPort (s : State) (p : Port) (f : PortRec → PortRec) : State :=
  s.setPort p (f (s.port p))

def State.modPower (s : State) (p : Port) (f : PowerPart → PowerPart) : State :=
  s.modPort p fun r => { r with power := f r.power }

def State.modLink (s : State) (p : Port) (f : LinkPart → LinkPart) : State :=
  s.modPort p fun r => { r with link := f r.link }

def State.modExposure (s : State) (p : Port) (f : Exposure → Exposure) : State :=
  s.modPort p fun r => { r with exposure := f r.exposure }

def State.modScan (s : State) (p : Port) (f : Scan → Scan) : State :=
  s.modPort p fun r => { r with scan := f r.scan }

def State.modMetric (s : State) (p : Port) (f : Metric → Metric) : State :=
  s.modPort p fun r => { r with metric := f r.metric }

def State.axis (s : State) (a : AxisId) : AxisRec := (s.port a.port).axis a.name

def State.setAxis (s : State) (a : AxisId) (x : AxisRec) : State :=
  s.modPort a.port fun r => r.setAxis a.name x

def State.modAxis (s : State) (a : AxisId) (f : AxisRec → AxisRec) : State :=
  s.setAxis a (f (s.axis a))

/-- The eight axes, 0-FOCUS to 3-IRIS. -/
def allAxes : List AxisId :=
  allPorts.flatMap fun p => [⟨p, .focus⟩, ⟨p, .iris⟩]

/-- The configuration image in force since the last start (R182). -/
def State.img (s : State) : ConfigImage := s.store.inForce

/-- An output the hub makes. -/
def State.emit (s : State) (o : Out) : State := { s with out := s.out ++ [o] }

/-- The state in which an event acts: the record of outputs is that of this event alone (log 26). -/
def State.fresh (s : State) : State := { s with out := [] }

/-- One event at a hub whose supplies are valid; a hub without supplies does nothing (log 6). -/
def State.event (s : State) (f : State → State) : Host.Outcome State Fault Refusal :=
  .next (if s.supplied then f s.fresh else s.fresh)

/-- Draw a place for a free value (log 35). -/
def State.draw (s : State) : Nat × State := (s.freeCount, { s with freeCount := s.freeCount + 1 })

/-! ### The transmit queue (R165, R166) -/

/-- The value of a notice's kind in the arbitration field (section 9.1). -/
def TxBody.kind : TxBody → Nat
  | .trigger _ _ _ => 0
  | .claim => 1
  | .standing _ => 2
  | .reply _ => 4
  | .report _ => 5

/-- R165: in order of kind, lowest first, and among notices of one kind in order of joining. -/
def insertTx (it : TxItem) : List TxItem → List TxItem
  | [] => [it]
  | x :: xs => if it.body.kind < x.body.kind then it :: x :: xs else x :: insertTx it xs

def State.joinTx (s : State) (b : TxBody) : State :=
  { s with line := { s.line with queue := insertTx ⟨b, false⟩ s.line.queue } }

def State.muted (s : State) : Bool :=
  match s.line.tx with
  | .mute _ => true
  | .ready => false
  | .attempt => false

/-- R165: the transmit queue holds at most 16 notices. -/
def State.txFull (s : State) : Bool := Config.txPlaces ≤ s.line.queue.length

/-- R25: the head of the claim queue lacks nothing but a free place in the transmit queue. -/
def State.claimReady (s : State) : Bool :=
  !s.claims.queue.isEmpty && s.claims.inFlight.isNone && s.claims.backoff.isNone
    && s.claims.settle.isNone && !s.muted

/-- The notices that wait outside the queue for a place (R166): a claim, a wanted STANDING, the held
REPLY. -/
def State.waitingOutside (s : State) : Nat :=
  s.claimReady.toNat + s.claims.standingWanted.toNat + s.line.held.isSome.toNat

def State.modCounters (s : State) (f : LineCounters → LineCounters) : State :=
  { s with line := { s.line with counters := f s.line.counters } }

/-- R159: REPORTs not sent, REPLYs not sent. -/
def State.countReportLost (s : State) : State :=
  s.modCounters fun c => { c with reportsNotSent := holdInc 65535 c.reportsNotSent }

def State.countReplyLost (s : State) : State :=
  s.modCounters fun c => { c with repliesNotSent := holdInc 65535 c.repliesNotSent }

/-- R177, R166, R164: a REPORT joins the queue, or is not sent and counted. A place that a waiting
notice is to take is not free for it (R166; log 11). -/
def State.offerReport (s : State) (r : Report) : State :=
  if s.muted || Config.txPlaces ≤ s.line.queue.length + s.waitingOutside then s.countReportLost
  else s.joinTx (.report r)

/-- R30: a STANDING that waits and whose transmission has not begun. -/
def TxItem.waitingStanding (it : TxItem) : Bool :=
  match it.body with
  | .standing _ => !it.sending
  | _ => false

/-- R22: STANDING queued. -/
def State.standingQueued (s : State) : Bool := s.line.queue.any TxItem.waitingStanding

/-- R30, R41, R166: queue a STANDING unless one waits already; while MUTE, or with no place free for it
(a claim that waits goes first, R166), a STANDING is wanted. -/
def State.offerStanding (s : State) : State :=
  if s.muted then { s with claims := { s.claims with standingWanted := true } }
  else if s.standingQueued then s
  else if Config.txPlaces ≤ s.line.queue.length + s.claimReady.toNat then
    { s with claims := { s.claims with standingWanted := true } }
  else s.joinTx (.standing none)

/-- R166: the youngest REPORT that waits and is not in an attempt, taken out of the queue; REPORTs
stand last and in order of joining. The list is read from its tail. -/
def dropYoungestReport : List TxItem → Option (List TxItem)
  | [] => none
  | x :: xs =>
    match dropYoungestReport xs with
    | some xs' => some (x :: xs')
    | none =>
      match x.body with
      | .report _ => if x.sending then none else some xs
      | _ => none

/-! ### The event unit (R176, R177) -/

/-- R176: an occurrence is latched in its entry; R177: and reported if the report mask names it. -/
def State.latch (s : State) (e : EventName) (port : Option Port) (d : Detail) : State :=
  let old := s.events.getD e.index clearedEntry
  let entry : EventEntry :=
    { latched := true, port := port, detail := some d, time := s.hubTime,
      count := holdInc 255 old.count }
  let s := { s with events := s.events.set e.index entry }
  if s.img.reported e then s.offerReport ⟨e, port, d, s.hubTime, entry.count⟩ else s

/-! ### The cell view (R33) -/

/-- An entry is replaced, or made in order of station number. -/
def putEntry (e : CellEntry) : List CellEntry → List CellEntry
  | [] => [e]
  | x :: xs =>
    if e.station < x.station then e :: x :: xs
    else if e.station = x.station then e :: xs
    else x :: putEntry e xs

def findEntry (station : Nat) (view : List CellEntry) : Option CellEntry :=
  view.find? fun e => e.station == station

/-- R33, R35: the surge that an entry counts: one whose expiry time has not been reached. -/
def CellEntry.unexpired (now : Nat) (e : CellEntry) : Option Surge :=
  e.surge.filter fun g => now < g.expiry

/-- What an entry counts in a view total (R33): its standing plus its unexpired surge. -/
def CellEntry.draw (now : Nat) (e : CellEntry) : Nat :=
  e.standing + (match e.unexpired now with | some g => g.amount | none => 0)

/-- R33: the view total. -/
def viewTotal (now : Nat) (view : List CellEntry) : Nat := (view.map (CellEntry.draw now)).sum

/-- R38: a station with an entry is heard: last heard is set and the status becomes PRESENT. -/
def hear (station now : Nat) (view : List CellEntry) : List CellEntry :=
  view.map fun e => if e.station = station then { e with lastHeard := now, stale := false } else e

/-- R33: a surge of 0, or a lifetime of 0, is recorded as absent. -/
def surgeOf (now amount lifetimeMs : Nat) : Option Surge :=
  if amount = 0 ∨ lifetimeMs = 0 then none
  else some ⟨amount, now + lifetimeMs * Config.usPerMs⟩

/-- R34: the own entry takes what the hub announced; it is always PRESENT. Its last heard time is set here
alone, at a grant and at the end of an own STANDING: the end of an own TRIGGER, REPLY or REPORT leaves it
(DESIGN CHOICE, log 39). -/
def State.announce (s : State) (standing : Nat) (surge : Option Surge) : State :=
  { s with view := putEntry ⟨s.station, standing, surge, s.hubTime, false⟩ s.view }

/-! ### Standing (R22, R30) -/

/-- R22: the required standing. -/
def State.required (s : State) : Nat :=
  let f (p : Port) : Nat := if (s.port p).power.state.powered then (s.port p).power.figure else 0
  let anyOn := allPorts.any fun p => (s.port p).power.state.powered
  f 0 + f 1 + f 2 + f 3 + (if anyOn then s.img.lensReserve else 0)

def State.anyPowered (s : State) : Bool :=
  allPorts.any fun p => (s.port p).power.state.powered

/-- R30, R31: a lowering sets the granted standing to the required standing and queues a STANDING;
reserve held becomes no when no port remains powered. -/
def State.lowering (s : State) : State :=
  { s with claims := { s.claims with
      granted := s.required
      reserveHeld := s.claims.reserveHeld && s.anyPowered } }.offerStanding

/-- R60: the reserve amount. -/
def State.reserveAmount (s : State) : Nat :=
  if s.claims.reserveHeld then s.img.lensReserve else 0

end Sys2Proof.Machine
end

