-- ==== Sys2Proof/Machine/StoreRules.lean ====
section
/-! DEFINITION. The configuration store's rules: which of two places counts, where a write goes, and how operations leave the queue (R180, R183, R15). -/

namespace Sys2Proof.Machine

/-- Which of two places holds the newer copy. -/
inductive Newer where
  | neither
  | first
  | second
deriving DecidableEq, Repr

/-- R180, by the copies' numbers: one valid place is the newer; of two, the one numbered one more mod
65,536, else the one with the higher number; equal numbers count the second as the newer (log 22). -/
def newerOf (a b : Option Nat) : Newer :=
  match a, b with
  | none, none => .neither
  | some _, none => .first
  | none, some _ => .second
  | some m, some n =>
    if n = wrapInc 65536 m then .second
    else if m = wrapInc 65536 n then .first
    else if n < m then .first
    else .second

/-- The number of a place's copy, absent where the place is blank or torn. -/
def Place.number {α : Type} (f : α → Nat) : Place α → Option Nat
  | .valid c => some (f c)
  | .blank => none
  | .torn => none

def Place.isTorn {α : Type} : Place α → Bool
  | .torn => true
  | .blank => false
  | .valid _ => false

def Places.anyTorn {α : Type} (q : Places α) : Bool := q.first.isTorn || q.second.isTorn

/-- The copy of the newer place. -/
def Places.newest {α : Type} (f : α → Nat) (q : Places α) : Option α :=
  match newerOf (q.first.number f) (q.second.number f), q.first, q.second with
  | .first, .valid c, _ => some c
  | .second, _, .valid c => some c
  | _, _, _ => none

/-- R183: a write goes into the place that does not hold the newer copy: the second exactly when the
first holds it. -/
def Places.writesSecond {α : Type} (f : α → Nat) (q : Places α) : Bool :=
  newerOf (q.first.number f) (q.second.number f) == .first

def Places.put {α : Type} (q : Places α) (second : Bool) (c : Place α) : Places α :=
  if second then { q with second := c } else { q with first := c }

/-- R180: two valid lockout records neither of which is one more than the other give SET if either
holds SET; otherwise the newer decides. -/
def Places.retained (q : Places LockCopy) : Bool :=
  match q.first, q.second with
  | .valid a, .valid b =>
    if b.serial = wrapInc 65536 a.serial then b.mark == .set
    else if a.serial = wrapInc 65536 b.serial then a.mark == .set
    else a.mark == .set || b.mark == .set
  | .valid a, _ => a.mark == .set
  | _, .valid b => b.mark == .set
  | _, _ => false

/-- R183: an operation as it begins: its place, and for a lockout record its serial. Of two valid records
neither of which is one more than the other, the one with the higher serial counts as the newer here (DESIGN
CHOICE, log 22). -/
def StoreOp.start (nv : Nonvolatile) : StoreOp → StoreWrite
  | .image c => .image c (nv.image.writesSecond ImageCopy.generation)
  | .lock p m =>
    let q := nv.locks.get p
    let serial := match q.newest LockCopy.serial with
      | some c => wrapInc 65536 c.serial
      | none => 0
    .lock p ⟨m, serial⟩ (q.writesSecond LockCopy.serial)

/-- The place of an operation in flight written, or left blank or torn. -/
def StoreWrite.finish (w : StoreWrite) (nv : Nonvolatile) (ok torn : Bool) : Nonvolatile :=
  match w with
  | .image c second =>
    { nv with image := nv.image.put second (if ok then .valid c else if torn then .torn else .blank) }
  | .lock p c second =>
    let place : Place LockCopy := if ok then .valid c else if torn then .torn else .blank
    { nv with locks := nv.locks.set p ((nv.locks.get p).put second place) }

/-- Places of the operation queue (R183). -/
def storePlaces : Nat := 4

/-- R15: a port's pending retained record enters the operation queue when it has a free place. -/
def enterRecord (s : State) (p : Port) : State :=
  match (s.port p).power.pendingRecord with
  | some m =>
    if s.store.queue.length < storePlaces then
      let s := { s with store := { s.store with queue := s.store.queue ++ [StoreOp.lock p m] } }
      s.modPower p fun q => { q with pendingRecord := none }
    else s
  | none => s

/-- R15, R183: lowest port first. -/
def enterRecords (s : State) : State := allPorts.foldl enterRecord s

/-- R183: with no operation in flight the head of the queue begins. -/
def beginOp (s : State) : State :=
  match s.store.inFlight, s.store.queue with
  | none, op :: rest =>
    { s with store := { s.store with queue := rest, inFlight := some (op.start s.nv) } }
  | _, _ => s

/-- R15, R183: what the store does in every event that gives it work or frees a place. -/
def runStore (s : State) : State := enterRecords (beginOp (enterRecords s))

/-- R14, R15: a change of the retained lockout makes a pending record; a set or clear that leaves the
field as it was makes none. -/
def setRetained (p : Port) (v : Bool) (s : State) : State :=
  if (s.port p).power.retainedLock = v then s
  else runStore (s.modPower p fun q =>
    { q with retainedLock := v, pendingRecord := some (if v then .set else .clear) })

/-- R183: an operation in flight at a power loss or a start leaves its place torn or blank. -/
def cutStoreOp (s : State) : State :=
  match s.store.inFlight with
  | some w =>
    { s with
        nv := w.finish s.nv false (Config.freeTorn s.freeCount)
        freeCount := s.freeCount + 1
        store := { s.store with inFlight := none } }
  | none => s

end Sys2Proof.Machine
end

