-- ==== Sys2Proof/Machine/Ramp.lean ====
section
/-! DEFINITION. The ramp arithmetic of a lens axis (R72 to R76, R78, R83): integer throughout, positions in sub-counts. -/

namespace Sys2Proof.Machine

/-- A position in sub-counts as the setpoint in counts (R72). -/
def countsOf (p : Nat) : Nat := p / 256

/-- R73: ASTART taken as AMAX where it is 0. -/
def ParamSet.astart' (q : ParamSet) : Nat := if q.astart = 0 then q.amax else q.astart
/-- R73: DFINAL taken as DMAX where it is 0. -/
def ParamSet.dfinal' (q : ParamSet) : Nat := if q.dfinal = 0 then q.dmax else q.dfinal

/-- R73: acceleration A(v). -/
def ParamSet.accel (q : ParamSet) (v : Nat) : Nat :=
  if q.vbreak = 0 then q.amax else if q.vbreak ≤ v then q.amax else q.astart'

/-- R73: deceleration D(v). -/
def ParamSet.decel (q : ParamSet) (v : Nat) : Nat :=
  if q.vbreak = 0 then q.dmax else if q.vbreak < v then q.dmax else q.dfinal'

/-- R73: braking distance B(v). -/
def ParamSet.brake (q : ParamSet) (v : Nat) : Nat :=
  if q.vbreak = 0 then v ^ 2 / (2 * q.dmax)
  else if q.vbreak < v then
    (v ^ 2 - q.vbreak ^ 2) / (2 * q.dmax) + q.vbreak ^ 2 / (2 * q.dfinal')
  else v ^ 2 / (2 * q.dfinal')

/-- A position clamped into the loaded limits (R62, R64, R80, R83). -/
def ParamSet.within (q : ParamSet) (p : Nat) : Nat := clampTo (q.lo * 256) (q.hi * 256) p

/-- r = dir × (T − P): the distance still to go in the direction of motion (R74, R75). -/
def AxisRec.gap (x : AxisRec) : Int :=
  match x.dir with
  | .far => (x.t : Int) - x.p
  | .near => (x.p : Int) - x.t

/-- P moves by dir × v and V becomes v; a step that would fall outside the limits sets P to the limit
it would cross and V to 0 (R76). -/
def AxisRec.advance (x : AxisRec) (v : Nat) : AxisRec :=
  let lo := x.params.lo * 256
  let hi := x.params.hi * 256
  match x.dir with
  | .far => if hi < x.p + v then { x with p := hi, v := 0 } else { x with p := x.p + v, v := v }
  | .near =>
    if x.p < lo + v then { x with p := lo, v := 0 } else { x with p := x.p - v, v := v }

/-- The effective limit of the move (R67); VMAX where none is recorded, which no move in progress
has. -/
def AxisRec.limit (x : AxisRec) : Nat := x.vmaxe.getD x.params.vmax

/-- R74: an update from rest. The second component says that the move lands. -/
def AxisRec.fromRest (x : AxisRec) : AxisRec × Bool :=
  if x.p = x.t then (x, true)
  else
    let x := { x with dir := if x.p < x.t then .far else .near }
    let first : Nat := if 0 < x.params.vstart then x.params.vstart else x.params.accel 0
    let v : Nat := min first x.limit
    if x.gap ≤ (v : Int) then ({ x with p := x.t, v := 0 }, true) else (x.advance v, false)

/-- R75: an update with V above 0. -/
def AxisRec.underWay (x : AxisRec) : AxisRec × Bool :=
  let q := x.params
  if x.gap < 0 then
    let v : Nat := if x.v - q.decel x.v < q.vstop then 0 else x.v - q.decel x.v
    (x.advance v, false)
  else
    let v :=
      if x.gap ≤ (q.brake x.v : Int) then max (x.v - q.decel x.v) q.vstop
      else if x.v < x.limit then min (x.v + q.accel x.v) x.limit
      else x.v
    if x.gap ≤ (v : Int) then ({ x with p := x.t, v := 0 }, true) else (x.advance v, false)

/-- R72: one update of a MOVING axis. -/
def AxisRec.moveStep (x : AxisRec) : AxisRec × Bool :=
  if x.v = 0 then x.fromRest else x.underWay

/-- R78, R83: one update of a STOPPING axis, braking by `d`. The stop is complete when V is 0. -/
def AxisRec.stopStep (x : AxisRec) (d : Nat) : AxisRec :=
  if x.v - d < x.params.vstop then { x with v := 0 } else x.advance (x.v - d)

end Sys2Proof.Machine
end

