-- ==== Sys2Proof/Machine/Lens.lean ====
section
/-! DEFINITION. The lens controller and the expose command: gates, the power check and the wait list, landings, stops, going offline, LOST and FROZEN (R62 to R71, R77 to R83, R92 to R94). -/

namespace Sys2Proof.Machine

/-! ### The expose command (R92 to R94) -/

/-- R59: whether an axis of the port is MOVING or STOPPING. -/
def State.poweredMoving (s : State) (p : Port) : Bool :=
  (s.port p).focus.state.poweredMoving || (s.port p).iris.state.poweredMoving

/-- R93, the event in which the command is sent; R43: on a link that is not UP or DEGRADED it is
discarded, and still counts as sent. -/
def sendExpose (p : Port) (s : State) : State :=
  let r := s.port p
  let s := if r.link.state.passes then s.emit (.exposeCommand p) else s
  s.modExposure p fun e =>
    { e with
        state := .exposing
        timer := some (s.img.exposeTimeout p * Config.usPerMs)
        sentAt := some s.hubTime
        positions := some ⟨countsOf r.focus.p, countsOf r.iris.p⟩
        movingMark := e.movingMark || s.poweredMoving p }

/-- R93: the expose command is issued, with or without the moving mark of R91 and R92; in ABANDONING it
is held and the machine shows DELAYING with no timer running (R90). -/
def issueExpose (p : Port) (mark : Bool) (s : State) : State :=
  let s := s.modExposure p fun e => { e with movingMark := e.movingMark || mark }
  if (s.port p).link.time = .abandoning then
    (s.modLink p fun l => { l with heldExpose := true }).modExposure p
      fun e => { e with state := .delaying, timer := none }
  else sendExpose p s

/-- R92: the lens controller tells the trigger unit that an axis of the port has left MOVING or
STOPPING. -/
def axisLeft (p : Port) (s : State) : State :=
  if (s.port p).exposure.state = .deferred ∧ s.poweredMoving p = false then issueExpose p false s
  else s

/-- R94: an axis of the port enters MOVING or STOPPING. -/
def markMoving (p : Port) (s : State) : State :=
  if (s.port p).exposure.state = .exposing then
    s.modExposure p fun e => { e with movingMark := true }
  else s

/-! ### The gates (R70, R71) -/

/-- R70; R57: an entry into WAIT_LINK while a piece runs ends it. -/
def gate (a : AxisId) (s : State) : State :=
  let r := s.port a.port
  if r.link.time ≠ .free then
    (s.modAxis a fun x => { x with state := .waitLink }).modLink a.port
      fun l => { l with waitEntered := l.waitEntered || l.time == .piece }
  else if s.img.policyWait a.port
      ∧ (r.exposure.state = .exposing ∨ r.exposure.state = .deferred) then
    s.modAxis a fun x => { x with state := .waitExposure }
  else markMoving a.port (s.modAxis a fun x => { x with state := .moving, v := 0 })

/-- R71: an axis in the wait named goes to the gates. -/
def releaseAxis (wait : AxisState) (a : AxisId) (s : State) : State :=
  if (s.axis a).state = wait then gate a s else s

/-- R71: both axes of a port that stand in the wait named. -/
def releaseWait (wait : AxisState) (p : Port) (s : State) : State :=
  releaseAxis wait ⟨p, .iris⟩ (releaseAxis wait ⟨p, .focus⟩ s)

/-! ### The power check and the wait list (R67, R68) -/

/-- R84: the sum of all allowances. -/
def State.allowances (s : State) : Nat := (allAxes.map fun a => (s.axis a).allowance).sum

/-- R67: the free reserve of an axis: its own allowance counts as free to it. -/
def State.freeReserve (s : State) (a : AxisId) : Nat :=
  s.reserveAmount - (s.allowances - (s.axis a).allowance)

/-- R67: the effective limit and the allowance taken. -/
def effective (q : ParamSet) (reserve free : Nat) : Nat × Nat :=
  let offered := min q.moveMA free
  if q.moveMA = 0 ∨ reserve = 0 then (q.vmax, 0)
  else if offered = q.moveMA then (q.vmax, q.moveMA)
  else (q.vmax * offered / q.moveMA, offered)

/-- R67: the power check; none when it fails. -/
def powerCheck (s : State) (a : AxisId) : Option (Nat × Nat) :=
  let q := (s.axis a).params
  let r := effective q s.reserveAmount (s.freeReserve a)
  if max q.vstart q.vstop ≤ r.1 then some r else none

/-- R67: a passing check fixes VMAXe and the allowance; the move goes to the gates. -/
def passCheck (a : AxisId) (r : Nat × Nat) (s : State) : State :=
  gate a (s.modAxis a fun x =>
    { x with vmaxe := some r.1, allowance := r.2, hold := none, activeEnd := none })

/-- R68: the wait list re-evaluated from its head. -/
def reevaluateFrom : List AxisId → State → State
  | [], s => s
  | a :: rest, s =>
    match powerCheck s a with
    | some r => reevaluateFrom rest (passCheck a r { s with lens := { s.lens with waitList := rest } })
    | none => s

def reevaluate (s : State) : State := reevaluateFrom s.lens.waitList s

/-- R68: an axis joins the wait list at its tail. -/
def joinWaitList (a : AxisId) (s : State) : State :=
  let s := s.modAxis a fun x =>
    { x with state := .waitPower, hold := none, activeEnd := none }
  { s with lens := { s.lens with waitList := s.lens.waitList ++ [a] } }

def leaveWaitList (a : AxisId) (s : State) : State :=
  { s with lens := { s.lens with waitList := s.lens.waitList.filter fun b => b != a } }

/-- R66, R67, R68: a move from REST, HOLDING or STOPPED_END whose target is set. With the list empty,
an allowance returned has no one to re-evaluate for. The second component says that a power check was
made. -/
def startMove (a : AxisId) (s : State) : State × Bool :=
  if s.lens.waitList.isEmpty then
    match powerCheck s a with
    | some r => (passCheck a r s, true)
    | none => (joinWaitList a s, true)
  else (joinWaitList a s, false)

/-! ### Loading parameters (R62) -/

/-- R62: the shadow set becomes the loaded set. -/
def AxisRec.load (x : AxisRec) : AxisRec :=
  let q := x.shadow.load
  let p := q.within x.p
  { x with
      params := q
      staged := false
      p := p
      t := if p = x.p then x.t else p
      allowance := if x.state = .holding then min x.allowance q.holdMA else x.allowance }

def AxisRec.loadStaged (x : AxisRec) : AxisRec := if x.staged then x.load else x

/-- R62, R61: an entry into REST: no allowance, nothing of a move, and a staged set loaded. -/
def AxisRec.enterRest (x : AxisRec) : AxisRec :=
  { x with state := .rest, allowance := 0, hold := none, vmaxe := none, stopKind := none,
           activeEnd := none }.loadStaged

/-! ### Landing (R77) and stopping (R78) -/

/-- R77: the axis enters HOLDING, and goes on to REST where HOLD_TIME is 0. A staged set is loaded after
the allowance and the hold timer are set (log 16). The move source stays (DEDUCED, log 53). -/
def AxisRec.landed (x : AxisRec) : AxisRec :=
  let y := { x with state := .holding, v := 0, vmaxe := none, stopKind := none, activeEnd := none,
                    allowance := min x.allowance x.params.holdMA,
                    hold := some (x.params.holdTime * Config.usPerMs) }.loadStaged
  if x.params.holdTime = 0 then y.enterRest else y

/-- R77, R78, R92: an axis whose P equals T lands, or ends its stop; the wait list is still to be
re-evaluated. Where the landing loads a staged set whose limits clamp P (R62), LENS_DONE carries the position
at which the axis landed, and the expose command that a DEFERRED exposure issues in the event records the
position after the load. The spec gives no order of the three: it is the model's (DESIGN CHOICE, log 54). -/
def landAxis (a : AxisId) (stopped : Bool) (s : State) : State :=
  let x := s.axis a
  axisLeft a.port ((s.setAxis a x.landed).latch .lensDone (some a.port)
    (.lensDone (axisNumber a) (countsOf x.p) stopped))

/-- R68, R77, R78: a landing, and the wait list re-evaluated where the allowance decreases. -/
def land (a : AxisId) (stopped : Bool) (s : State) : State :=
  let t := landAxis a stopped s
  if (t.axis a).allowance < (s.axis a).allowance then reevaluate t else t

/-- R78: what LENS_STOP, or a cancelled scan (R134), does to an axis, up to the re-evaluation of the wait
list; the second component says that the stop has begun or is under way (ACCEPTED), and not that it is
done. -/
def haltAxis (a : AxisId) (s : State) : State × Bool :=
  let x := s.axis a
  match x.state with
  | .moving =>
    if 0 < x.v then
      (markMoving a.port (s.setAxis a { x with state := .stopping, stopKind := some .command }), true)
    else (landAxis a true (s.setAxis a { x with t := x.p }), false)
  | .stopping => (s, true)
  | .waitPower | .waitLink | .waitExposure =>
    (leaveWaitList a (s.setAxis a ({ x with t := x.p }).enterRest), false)
  | .rest | .holding | .stoppedEnd | .offline | .frozen | .lost => (s, false)

/-- R68: what a stop of this axis frees lets the wait list be re-evaluated: an allowance that has
decreased, or a place on the list. -/
def freed (a : AxisId) (s t : State) : Bool :=
  ((s.axis a).state.waiting && !(t.axis a).state.waiting) || decide ((t.axis a).allowance < (s.axis a).allowance)

/-- R78: LENS_STOP of an axis. -/
def stopAxis (a : AxisId) (s : State) : State × Bool :=
  let m := haltAxis a s
  (if freed a s m.1 then reevaluate m.1 else m.1, m.2)

/-! ### Going offline, LOST, FROZEN and the end switches (R63, R80 to R83) -/

/-- R63: one axis. The move source, cleared, is COMMAND, its start value (DEDUCED, log 53). -/
def AxisRec.goOffline (x : AxisRec) : AxisRec :=
  if x.state = .offline then x
  else
    { x with state := .offline, v := 0, t := x.p, vmaxe := none, allowance := 0, hold := none,
             stopKind := none, activeEnd := none, source := .command, bad := 0, follow := 0,
             last := none }

/-- R63: both axes of a port go OFFLINE in one event, and the wait list is re-evaluated once. -/
def portOffline (p : Port) (s : State) : State :=
  let r := s.port p
  if r.focus.state = .offline ∧ r.iris.state = .offline then s
  else
    let s := s.setPort p { r with focus := r.focus.goOffline, iris := r.iris.goOffline }
    let list := s.lens.waitList.filter fun b => b.port != p
    reevaluate (axisLeft p { s with lens := { s.lens with waitList := list } })

/-- R80: an axis becomes LOST. -/
def loseAxis (a : AxisId) (following : Bool) (s : State) : State :=
  let s := s.modAxis a fun x =>
    { x with state := .lost, v := 0, vmaxe := none, allowance := 0, hold := none, stopKind := none,
             activeEnd := none }
  let s := (leaveWaitList a s).latch .lensLost (some a.port) (.lensLost (axisNumber a) following)
  reevaluate (axisLeft a.port s)

/-- R82, R83: an axis enters FROZEN. The wait list is re-evaluated by the event that freezes. That T becomes
P also where the axis waited, or was MOVING with V = 0, is the model's (DESIGN CHOICE, log 41). -/
def freezeAxis (a : AxisId) (s : State) : State :=
  let s := s.modAxis a fun x =>
    { x with state := .frozen, v := 0, t := x.p, vmaxe := none, allowance := 0, hold := none,
             stopKind := none, activeEnd := none, sinceFreeze := false }
  axisLeft a.port ((leaveWaitList a s).latch .lensFrozen (some a.port) (.lensFrozen (axisNumber a)))

/-- R72: the setpoint of an axis on its port's control lane; R43: sent in UP and DEGRADED only. -/
def sendSetpoint (a : AxisId) (s : State) : State :=
  if (s.port a.port).link.state.passes then s.emit (.setpoint a (countsOf (s.axis a).p)) else s

/-- R81: an end flag in the direction of motion. -/
def endStop (a : AxisId) (side : EndSide) (s : State) : State :=
  let x := s.axis a
  let s := sendSetpoint a (s.setAxis a
    { x with v := 0, t := x.p, vmaxe := none, hold := none })
  let d := Detail.endStop (axisNumber a) side
  if x.stopKind = some .guard then
    reevaluate ((freezeAxis a s).latch .lensEndStop (some a.port) d)
  else
    let s := s.modAxis a fun y =>
      { y with state := .stoppedEnd, stopKind := none, activeEnd := some side,
               allowance := min y.allowance y.params.holdMA }
    let s := axisLeft a.port (s.latch .lensEndStop (some a.port) d)
    if (s.axis a).allowance < x.allowance then reevaluate s else s

/-- R82: GUARD becomes ACTIVE: what it does to one axis. -/
def guardAxis (s : State) (a : AxisId) : State :=
  let x := s.axis a
  match x.state with
  | .moving =>
    if 0 < x.v ∧ 0 < s.img.dfreeze then
      markMoving a.port (s.setAxis a { x with state := .stopping, stopKind := some .guard })
    else freezeAxis a s
  | .stopping =>
    if 0 < s.img.dfreeze then s.setAxis a { x with stopKind := some .guard }
    else freezeAxis a s
  | .waitPower | .waitLink | .waitExposure => freezeAxis a s
  | .rest | .holding | .stoppedEnd | .offline | .frozen | .lost => s

/-! ### A move request (R65, R66) -/

/-- R65: the lens controller's own checks, in order. -/
def moveRefusal (s : State) (x : AxisRec) : Option Reason :=
  match x.state with
  | .offline => some (.axis .offline)
  | .lost => some (.axis .lost)
  | .frozen => some (.axis .frozen)
  | _ =>
    if x.state = .stopping ∧ x.stopKind = some .guard then some (.axis .frozen)
    else if s.lens.guardActive then some .guardActive
    else none

/-- R65: STOPPED_END refuses a target strictly toward its active end. -/
def atEnd (x : AxisRec) (target : Nat) : Bool :=
  match x.state, x.activeEnd with
  | .stoppedEnd, some .near => target < countsOf x.p
  | .stoppedEnd, some .far => countsOf x.p < target
  | _, _ => false

/-- What became of a move request. -/
inductive MoveAnswer where
  | refused (r : Reason)
  | landed
  | accepted
deriving DecidableEq, Repr

/-- R65: the answer with the target in counts, whether it was clamped, and whether a power check was
made. -/
structure MoveResult where
  answer : MoveAnswer
  target : Nat
  clamped : Bool
  checked : Bool
deriving DecidableEq, Repr

/-- R66: a request that passes, by the axis's state. The move source of a move in progress or waiting is that
of the latest request. That a request that lands at once sets it too, which neither its row of R66 nor R77
says, is the model's (DESIGN CHOICE, log 52). -/
def takeMove (src : MoveSource) (a : AxisId) (t : Nat) (clamped : Bool) (s : State) :
    State × MoveResult :=
  let x := { s.axis a with source := src, t := t * 256 }
  match x.state with
  | .stopping =>
    (markMoving a.port (s.setAxis a { x with state := .moving, stopKind := none }),
      ⟨.accepted, t, clamped, false⟩)
  | .rest | .holding | .stoppedEnd =>
    if x.t = x.p then (land a false (s.setAxis a x), ⟨.landed, t, clamped, false⟩)
    else
      let m := startMove a (s.setAxis a x)
      (m.1, ⟨.accepted, t, clamped, m.2⟩)
  | .moving | .waitPower | .waitLink | .waitExposure | .offline | .frozen | .lost =>
    (s.setAxis a x, ⟨.accepted, t, clamped, false⟩)

/-- R65, R66: a request for a target in counts. SCAN_ACTIVE is checked where a command brings it. -/
def moveRequest (src : MoveSource) (a : AxisId) (want : Int) (s : State) : State × MoveResult :=
  let x := s.axis a
  match moveRefusal s x with
  | some r => (s, ⟨.refused r, 0, false, false⟩)
  | none =>
    let t := clampTo x.params.lo x.params.hi want.toNat
    if atEnd x t then (s, ⟨.refused .atEnd, t, false, false⟩)
    else takeMove src a t (decide ((t : Int) ≠ want)) s

end Sys2Proof.Machine
end

