-- ==== Sys2Proof/Machine/Exposure.lean ====
section
/-! DEFINITION. The trigger unit and the exposure machines: missed records, taking an exposure, the end of its delay, its return to IDLE (R56, R86 to R101). -/

namespace Sys2Proof.Machine

/-- R101: records the missed-trigger list holds. -/
def missedPlaces : Nat := 16

/-- R100, R101: a missed record is appended and TRIGGER_MISSED latched. -/
def missed (p : Port) (o : Origin) (why : MissReason) (s : State) : State :=
  let t := s.triggers
  let full := decide (missedPlaces ≤ t.missed.length)
  let kept := if full then t.missed.drop 1 else t.missed
  let unit : TriggerUnit :=
    { t with
        missed := kept ++ [⟨t.nextRecord, o, p, why, s.hubTime⟩]
        nextRecord := wrapInc 65536 t.nextRecord
        dropped := if full then holdInc 65535 t.dropped else t.dropped }
  { s with triggers := unit }.latch .triggerMissed (some p) (.missed why)

/-- R56: the port's exposure machine takes an exposure while a piece runs: link time becomes ABANDONING
and the acquisition under way is discarded. -/
def abandonPiece (p : Port) (s : State) : State :=
  if (s.port p).link.time = .piece then
    let s := s.modLink p fun l => { l with time := .abandoning }
    match s.locator.engine with
    | .piece se n _ => { s with locator := { s.locator with engine := .piece se n false } }
    | _ => s
  else s

/-- R91: the delay of an exposure ends. -/
def delayOver (p : Port) (s : State) : State :=
  if s.img.policyWait p && s.poweredMoving p then
    if s.img.deferLimit p = 0 then issueExpose p true s
    else s.modExposure p fun e =>
      { e with state := .deferred, timer := some (s.img.deferLimit p * Config.usPerMs) }
  else issueExpose p false s

/-- R90: an IDLE machine takes an exposure; a delay of 0 ends in the same event. -/
def takeExposure (p : Port) (o : Origin) (delay : Nat) (s : State) : State :=
  let s := s.modExposure p fun e =>
    { e with state := .delaying, origin := some o, takenAt := some s.hubTime,
             taken := holdInc 65535 e.taken, timer := if delay = 0 then none else some delay }
  let s := abandonPiece p s
  if delay = 0 then delayOver p s else s

/-- R99: a scan capture is taken at once by an IDLE machine, or held. -/
def requestCapture (p : Port) (c : Capture) (s : State) : State :=
  if (s.port p).exposure.state = .idle then takeExposure p (.scan c) 0 s
  else s.modExposure p fun e => { e with held := some c }

/-- R90: every field but the state, the counts and the held scan capture is cleared at IDLE. -/
def Exposure.cleared (e : Exposure) : Exposure :=
  { startExposure with held := e.held, taken := e.taken, timeouts := e.timeouts }

/-- R90, R99: the machine returns to IDLE and takes a held scan capture in that event. -/
def toIdle (p : Port) (s : State) : State :=
  let s := s.modExposure p Exposure.cleared
  match (s.port p).exposure.held with
  | some c => takeExposure p (.scan c) 0 (s.modExposure p fun e => { e with held := none })
  | none => s

/-- R98: a port power-off abandons the exposure, with one missed record; a held capture is discarded. -/
def abandonExposure (p : Port) (s : State) : State :=
  let e := (s.port p).exposure
  if e.state = .idle then s
  else
    let s := s.modExposure p fun e => { e.cleared with held := none }
    match e.origin with
    | some o => missed p o .portNotUp s
    | none => s

/-- R87: what keeps a port from an accepted trigger, in order. -/
def missReason (s : State) (p : Port) : Option MissReason :=
  let r := s.port p
  if r.power.volatileLock || r.power.retainedLock then some .lockedOut
  else if !r.link.state.passes then some .portNotUp
  else if r.scan.loader = .running then some .scanActive
  else if r.exposure.state ≠ .idle then some .overrun
  else if s.frames.tight && s.img.lowPriority p then some .storeTight
  else none

/-- R87: an accepted trigger applied to one port. -/
def applyToPort (line sequence : Nat) (s : State) (p : Port) : State :=
  if (s.img.subscribed p).map Fin.val = some line then
    match missReason s p with
    | some why => missed p (.line line sequence) why s
    | none => takeExposure p (.line line sequence) (s.img.triggerDelay p) s
  else s

/-- R86: what a TRIGGER does to its line's entry. -/
inductive LineVerdict where
  | ignored (e : LineEntry)
  | accepted (e : LineEntry)
  | gap (e : LineEntry) (count : Nat) (resync : Bool)
deriving DecidableEq, Repr

/-- R86 -/
def judgeTrigger (e : LineEntry) (sequence : Nat) : LineVerdict :=
  let taken := { e with last := sequence, valid := true, staleRun := 0 }
  let d := (sequence + 256 - e.last) % 256
  if !e.valid then .accepted taken
  else if d = 0 then .ignored e
  else if d = 1 then .accepted taken
  else if d < 128 then .gap taken (d - 1) false
  else
    let stale := holdInc 65535 e.staleCount
    if e.staleRun + 1 < 3 then .ignored { e with staleRun := e.staleRun + 1, staleCount := stale }
    else .gap { taken with staleCount := stale } 0 true

def setLine (line : Nat) (e : LineEntry) (s : State) : State :=
  { s with triggers := { s.triggers with lines := s.triggers.lines.set line e } }

/-- R86, R87: a TRIGGER taken by the trigger unit. -/
def takeTrigger (line sequence : Nat) (s : State) : State :=
  match judgeTrigger (s.triggers.lines.getD line startLine) sequence with
  | .ignored e => setLine line e s
  | .accepted e => allPorts.foldl (applyToPort line sequence) (setLine line e s)
  | .gap e count resync =>
    allPorts.foldl (applyToPort line sequence)
      ((setLine line e s).latch .triggerGap none (.gap line count resync))

/-! ### Sense inputs (R85, R88, R89) -/

def State.sense (s : State) (input : Fin 2) : SenseInput :=
  if input = 0 then s.triggers.sense0 else s.triggers.sense1

def State.setSense (s : State) (input : Fin 2) (x : SenseInput) : State :=
  if input = 0 then { s with triggers := { s.triggers with sense0 := x } }
  else { s with triggers := { s.triggers with sense1 := x } }

def State.sensePending (s : State) (input : Fin 2) (w : SensePending) : State :=
  s.setSense input { s.sense input with pending := w }

/-- R88: the edge is dropped. -/
def dropEdge (input : Fin 2) (cause : OverrunCause) (s : State) : State :=
  let x := s.sense input
  (s.setSense input { x with overrun := holdInc 65535 x.overrun }).latch .senseOverrun none
    (.overrun input cause)

end Sys2Proof.Machine
end

