-- ==== Sys2Proof/Machine/Flags.lean ====
section
/-! DEFINITION. Codes of the names a reply or a report carries, counted from 0 in the list that defines them (R186), the reason byte (12.2) and the summary flags (R179). -/

namespace Sys2Proof.Machine

/-- yes/no, set/clear, open/closed, high/low: 1 for yes, set, closed, high (log 9). -/
def boolCode (b : Bool) : Nat := if b then 1 else 0

def powerCode : PowerState → Nat
  | .off => 0
  | .claiming => 1
  | .inrush => 2
  | .on => 3

def linkCode : LinkState → Nat
  | .dark => 0
  | .training => 1
  | .up => 2
  | .degraded => 3
  | .down => 4

def linkTimeCode : LinkTime → Nat
  | .free => 0
  | .piece => 1
  | .abandoning => 2

/-- 12.2: OFFLINE 0 to LOST 10. -/
def axisCode : AxisState → Nat
  | .offline => 0
  | .rest => 1
  | .waitPower => 2
  | .waitLink => 3
  | .waitExposure => 4
  | .moving => 5
  | .stopping => 6
  | .holding => 7
  | .stoppedEnd => 8
  | .frozen => 9
  | .lost => 10

/-- R60: GUARD, ACTIVE or INACTIVE in that order. -/
def guardCode (active : Bool) : Nat := if active then 0 else 1

def sideCode : EndSide → Nat
  | .near => 0
  | .far => 1

def stopKindCode : StopKind → Nat
  | .command => 0
  | .guard => 1

def sourceCode : MoveSource → Nat
  | .command => 0
  | .scan => 1

def exposureCode : ExposureState → Nat
  | .idle => 0
  | .delaying => 1
  | .deferred => 2
  | .exposing => 3
  | .receiving => 4

/-- 12.1: reason, 0 to 6 in the order of R100. -/
def missCode : MissReason → Nat
  | .lockedOut => 0
  | .portNotUp => 1
  | .scanActive => 2
  | .overrun => 3
  | .storeTight => 4
  | .noFrame => 5
  | .storeFull => 6

def slotCode : SlotState → Nat
  | .free => 0
  | .filling => 1
  | .ready => 2
  | .sending => 3
  | .sent => 4
  | .releasePending => 5

def outLinkCode : OutLinkState → Nat
  | .absent => 0
  | .aligning => 1
  | .up => 2

def sendPartCode : SendPart → Nat
  | .record => 0
  | .pixels => 1

def loaderCode : LoaderState → Nat
  | .empty => 0
  | .loading => 1
  | .loaded => 2
  | .aborted => 3
  | .running => 4
  | .done => 5
  | .cancelled => 6

def phaseCode : RunPhase → Nat
  | .stepMove => 0
  | .settle => 1
  | .capture => 2
  | .endMove => 3

def endActionCode : EndAction → Nat
  | .stay => 0
  | .goBack => 1
  | .best => 2

/-- 12.4: run state 0 NONE, 1 RUNNING, 2 DONE, 3 CANCELLED. -/
def runStateCode : RunState → Nat
  | .none => 0
  | .running => 1
  | .done => 2
  | .cancelled => 3

/-- 12.1, 12.4: the reason 1 to 8 in the order of the table of R133. -/
def cancelCode : CancelReason → Nat
  | .command => 1
  | .frozen => 2
  | .lost => 3
  | .endStop => 4
  | .linkLost => 5
  | .powerOff => 6
  | .noFrame => 7
  | .moveRefused => 8

/-- 12.1: kind, 1 LIVE, 2 DARK. -/
def sweepKindCode : SweepKind → Nat
  | .live => 1
  | .dark => 2

/-- 12.4: class 0 to 6 in the order NONE, OPEN, SHORT, STEP, NO_END, INCOMPLETE, CANCELLED. -/
def sweepClassCode : SweepClass → Nat
  | .none => 0
  | .opened => 1
  | .short => 2
  | .step => 3
  | .noEnd => 4
  | .incomplete => 5
  | .cancelled => 6

def sweepSourceCode : SweepSource → Nat
  | .command => 0
  | .trip => 1
  | .undercurrent => 2
  | .training => 3
  | .degraded => 4
  | .liveResult => 5

def entryStatusCode : EntryStatus → Nat
  | .waiting => 0
  | .gathering => 1
  | .formed => 2
  | .running => 3
  | .setAside => 4

def engineCode : Engine → Nat
  | .idle => 0
  | .calibratingBatch _ => 1
  | .calibratingSession _ => 1
  | .darkRun .. => 2
  | .waitingGap _ => 3
  | .piece .. => 4

def lockMarkCode : LockMark → Nat
  | .set => 0
  | .clear => 1

def claimKindCode : ClaimKind → Nat
  | .powerOn => 0
  | .correction _ => 1

/-- 12.1: 1 PENDING, 2 MUTE, 3 QUEUE_FULL. -/
def overrunCode : OverrunCause → Nat
  | .pending => 1
  | .mute => 2
  | .queueFull => 3

/-- 12.3: 8, 10 or 12. -/
def formatCode : PixelFormat → Nat
  | .bits8 => 8
  | .bits10 => 10
  | .bits12 => 12

/-- 12.2: 0 DONE, 1 ACCEPTED, 2 REFUSED. -/
def statusCode : Status → Nat
  | .done => 0
  | .accepted => 1
  | .refused => 2

/-- 12.2: the reason byte. -/
def reasonCode : Reason → Nat
  | .none => 0
  | .badArgument => 1
  | .overflow => 2
  | .portDisabled => 3
  | .lockedOut => 4
  | .sweepPending => 5
  | .notClean => 6
  | .scanActive => 7
  | .atEnd => 8
  | .guardActive => 9
  | .loaderAborted => 10
  | .notLoading => 11
  | .noProgram => 12
  | .slotBusy => 13
  | .slotFree => 14
  | .portPowered => 15
  | .sweepRunning => 16
  | .storeBusy => 17
  | .axis st => 0x40 + axisCode st
  | .link st => 0x60 + linkCode st
  | .power st => 0x70 + powerCode st

/-- R179: whether an event of selection i is latched. -/
def selectionLatched (img : ConfigImage) (events : List EventEntry) (i : Nat) : Bool :=
  (List.range 25).any fun k => img.watches i k && (events.getD k clearedEntry).latched

/-- R179: the four summary flags of the moment, flag i in bit i. -/
def summaryFlags (s : State) : BitVec 4 :=
  let f (i : Nat) : Nat := boolCode (selectionLatched s.store.inForce s.events i) * 2 ^ i
  BitVec.ofNat 4 (f 0 + f 1 + f 2 + f 3)

end Sys2Proof.Machine
end

