-- ==== Sys2Proof/Machine/Layout.lean ====
section
/-! DEFINITION. The layouts of chapter 12: payloads of the hub's notices, the frame record, the sweep and scan result records. -/

namespace Sys2Proof.Machine

def oneByte (n : Nat) : List Byte := beBytes 1 n
def twoBytes (n : Nat) : List Byte := beBytes 2 n

/-- An absent optional field of one byte is carried as 0xFF (R186). -/
def optByte : Option Nat → List Byte
  | some n => oneByte n
  | none => [0xFF]

/-- An optional field of more than one byte is preceded by one byte, 1 when present and 0 when absent,
and an absent field's bytes are sent as 0 (R186). -/
def optBytes (k : Nat) : Option Nat → List Byte
  | some n => 1 :: beBytes k n
  | none => 0 :: beBytes k 0

def flagByte (b : Bool) : List Byte := oneByte (boolCode b)

/-- Bytes padded with 0 up to `k`. -/
def padTo (k : Nat) (bs : List Byte) : List Byte := bs ++ List.replicate (k - bs.length) 0

/-- A set of ports as bit p for port p. -/
def portMask (ps : List Port) : Nat :=
  let f (p : Port) : Nat := if p ∈ ps then 2 ^ p.val else 0
  f 0 + f 1 + f 2 + f 3

/-- The origin of an exposure as three bytes: kind 0 line, 1 scan; line or step; sequence or pass. -/
def originBytes : Origin → List Byte
  | .line l q => oneByte 0 ++ oneByte l ++ oneByte q
  | .scan c => oneByte 1 ++ oneByte c.step ++ oneByte c.pass

/-- R185: the detail bytes of an occurrence. -/
def detailBytes : Detail → List Byte
  | .nothing => []
  | .tripSample mA => oneByte 0 ++ twoBytes mA
  | .tripInrush => oneByte 1 ++ twoBytes 0
  | .figure mA => twoBytes mA
  | .attempts => oneByte 1
  | .withdrawn => oneByte 2
  | .total mA => beBytes 3 mA
  | .trained => oneByte 1
  | .recovered => oneByte 2
  | .head => oneByte 1
  | .stream => oneByte 2
  | .window n => twoBytes n
  | .timeouts n => oneByte n
  | .gap l n resync => oneByte l ++ oneByte n ++ flagByte resync
  | .missed r => oneByte (missCode r)
  | .overrun input cause => oneByte input.val ++ oneByte (overrunCode cause)
  | .origin o => originBytes o
  | .frame n => twoBytes n
  | .occupancy n => oneByte n
  | .lensDone a counts stopped => oneByte a ++ twoBytes counts ++ oneByte (1 + boolCode stopped)
  | .endStop a side => oneByte a ++ oneByte (1 + sideCode side)
  | .lensLost a following => oneByte a ++ oneByte (1 + boolCode following)
  | .lensFrozen a => oneByte a
  | .scanDone none => oneByte 0
  | .scanDone (some r) => oneByte (cancelCode r)
  | .scanAborted .begun => oneByte 1 ++ [0xFF, 0xFF]
  | .scanAborted (.outOfOrder e r) => oneByte 2 ++ oneByte e ++ oneByte r
  | .scanAborted .run => oneByte 3 ++ [0xFF, 0xFF]
  | .sweep k c => oneByte (sweepKindCode k) ++ oneByte (sweepClassCode c)
  | .fault c d => oneByte (sweepClassCode c) ++ beBytes 4 d
  | .start r =>
    oneByte (match r.cause with | .powerOn => 1 | .restart => 2)
      ++ oneByte (boolCode r.imageDefaulted + 2 * boolCode r.imageTorn + 4 * boolCode r.station15
          + 8 * boolCode r.generation.isSome)
      ++ oneByte (portMask (allPorts.filter r.storeTorn.get))
      ++ twoBytes (r.generation.getD 0)

/-- The port of an event, or 0xFF. -/
def portByte (p : Option Port) : List Byte := optByte (p.map fun p => p.val)

/-- 12.1: the REPORT payload, 13 bytes. -/
def reportPayload (r : Report) : List Byte :=
  oneByte (r.event.index + 1) ++ portByte r.port ++ padTo 6 (detailBytes r.detail)
    ++ beBytes 4 r.time ++ oneByte r.count

/-- 12.2: the head of a REPLY part and its results. Byte 2 is status in the top two bits, the
last-part mark, the part number in four bits, the truncation mark. -/
def replyPayload (r : Reply) : List Byte :=
  [r.tag, r.code]
    ++ oneByte (64 * statusCode r.status + 32 * boolCode r.lastPart + 2 * (r.part % 16)
        + boolCode r.truncated)
    ++ oneByte (reasonCode r.reason) ++ oneByte r.flags.toNat ++ r.results

/-- 12.1: the payload of a notice of the hub's own as its attempt begins. -/
def txPayload (s : State) : TxBody → List Byte
  | .trigger _ line sequence => oneByte line ++ oneByte (sequence.getD 0)
  | .claim =>
    match s.claims.inFlight with
    | some c => twoBytes c.standing ++ twoBytes c.surge ++ twoBytes Config.surgeMs
    | none => twoBytes 0 ++ twoBytes 0 ++ twoBytes Config.surgeMs
  | .standing value => twoBytes (value.getD 0)
  | .reply r => replyPayload r
  | .report r => reportPayload r

/-- The target of a notice of the hub's own: all stations, but for a REPLY (R86, R26, R173, R177). A
STANDING, for which the spec gives no target, goes to all stations as well (DESIGN CHOICE, log 50). -/
def txTarget : TxBody → BitVec 4
  | .reply r => r.target
  | _ => 15

/-- R160: the notice an attempt puts on the line. -/
def wireNotice (s : State) (b : TxBody) : WireNotice :=
  { kind := BitVec.ofNat 3 b.kind, sender := BitVec.ofNat 4 s.station, target := txTarget b,
    payload := txPayload s b }

/-- 12.3: the 32-byte frame record. -/
def frameRecordBytes (s : State) (n : Nat) (r : SlotRecord) : List Byte :=
  oneByte n ++ oneByte r.port.val ++ twoBytes r.frameNumber ++ oneByte r.sendNumber
    ++ oneByte (formatCode r.format) ++ twoBytes r.width ++ twoBytes r.height
    ++ beBytes 4 r.pixels.length ++ beBytes 4 r.captureTime
    ++ twoBytes r.positions.focus ++ twoBytes r.positions.iris ++ twoBytes (r.metric.getD 0)
    ++ oneByte (boolCode r.truncated + 2 * boolCode r.linkErrors + 4 * boolCode r.lensMoving
        + 8 * boolCode r.scanFrame + 16 * boolCode r.metricPartial
        + 32 * boolCode r.metric.isSome)
    ++ originBytes r.origin ++ oneByte s.station ++ [0, 0, 0]

/-- 12.4: the sweep result record, 14 bytes. -/
def sweepRecordBytes (r : SweepResult) : List Byte :=
  oneByte (match r.kind with | none => 0 | some k => sweepKindCode k)
    ++ oneByte (sweepClassCode r.cls) ++ beBytes 4 (r.distance.getD 0)
    ++ [BitVec.ofInt 8 (r.rho.getD 0 / 256), BitVec.ofInt 8 (r.rho.getD 0)]
    ++ oneByte r.used
    ++ oneByte (boolCode r.shortAveraged + 2 * boolCode r.disturbed + 4 * boolCode r.endSeen
        + 8 * boolCode r.distance.isSome + 16 * boolCode r.rho.isSome)
    ++ beBytes 4 r.time

/-- R132, R135: a step's mean, absent when it has no metric. -/
def StepTally.mean (t : StepTally) : Option Nat :=
  if t.number = 0 then none else some (t.sum / t.number)

/-- R132: the better of the best so far and step i; between equal means the lower index. -/
def betterStep (best : Option (Nat × Nat)) (i : Nat) (t : StepTally) : Option (Nat × Nat) :=
  match t.mean, best with
  | none, b => b
  | some m, none => some (i, m)
  | some m, some (j, bm) => if bm < m then some (i, m) else some (j, bm)

def bestFrom : Nat → List StepTally → Option (Nat × Nat) → Option (Nat × Nat)
  | _, [], b => b
  | i, t :: ts, b => bestFrom (i + 1) ts (betterStep b i t)

/-- R132: the best step with its mean, absent when no step has a mean. -/
def bestStep (ts : List StepTally) : Option (Nat × Nat) := bestFrom 0 ts none

/-- 12.4: the scan result record, 14 bytes and 7 for each step of the run. -/
def scanRecordBytes (r : ScanResult) : List Byte :=
  oneByte (runStateCode r.state)
    ++ oneByte (match r.reason with | none => 0 | some c => cancelCode c)
    ++ oneByte (16 * endActionCode r.loadedAction + endActionCode r.takenAction)
    ++ flagByte r.noMetric ++ oneByte r.count ++ oneByte r.passes ++ oneByte r.passReached
    ++ oneByte r.stepReached ++ twoBytes r.captures
    ++ optByte ((bestStep r.tallies).map fun b => b.1)
    ++ twoBytes (match bestStep r.tallies with | some b => b.2 | none => 0)
    ++ oneByte r.tallies.length
    ++ r.tallies.flatMap (fun t => beBytes 3 t.sum ++ oneByte t.number ++ oneByte t.partials
        ++ twoBytes (t.mean.getD 0))

end Sys2Proof.Machine
end

