-- ==== Sys2Proof/Machine/MetricUnit.lean ====
section
/-! DEFINITION. The focus metric (R122, R123): clipping, the row sums, and the closing of a frame. -/

namespace Sys2Proof.Machine

/-- R122: the ROI clipped to the frame. -/
def clipRoi (r : Roi) (width height : Nat) : ClippedRoi :=
  let x1 := min r.x1 (width - 1)
  let y1 := min r.y1 (height - 1)
  if x1 < r.x0 ∨ y1 < r.y0 then .empty else .area ⟨r.x0, x1, r.y0, y1⟩

/-- R122: a frame start. Without an ROI, or with an empty clipped ROI, the frame is not metered; the partial
mark that an earlier frame left is cleared there too (DESIGN CHOICE, log 48). -/
def Metric.frameStart (m : Metric) (roi : Option Roi) (f : PixelFormat) (width height : Nat)
    (scanFrame : Bool) : Metric :=
  match roi with
  | none => { m with active := false, clip := .absent, scanFrame := scanFrame, width := width,
                     format := f, partialMark := false }
  | some r =>
    match clipRoi r width height with
    | .area a =>
      { m with active := true, clip := .area a, sum := 0, rows := 0, rowSum := 0, intact := true,
               partialMark := false, scanFrame := scanFrame, row := none, nextCol := 0, prev := 0,
               width := width, format := f }
    | c => { m with active := false, clip := c, scanFrame := scanFrame, width := width,
                    format := f, partialMark := false }

/-- R122: pixel values normalised to 12 bits. -/
def normalise (f : PixelFormat) (v : BitVec 12) : Nat :=
  match f with
  | .bits8 => v.toNat % 256 * 16
  | .bits10 => v.toNat % 1024 * 4
  | .bits12 => v.toNat

/-- R121: S saturates at 2^40 − 1. -/
def addSum (s r : Nat) : Nat := min (s + r) (2 ^ 40 - 1)

/-- R122: the last pixel of the row in hand has not been handed on. -/
def Metric.rowOpen (m : Metric) : Bool := m.row.isSome && m.nextCol ≤ m.width

/-- R122: data of a row begins. Another row still open has been broken off before its last pixel: it is
dropped whole and sets the partial mark. -/
def Metric.enterRow (m : Metric) (a : Roi) (y : Nat) : Metric :=
  if m.row = some y then m
  else
    { m with row := some y, rowSum := 0, intact := true, nextCol := a.x0, prev := 0,
             partialMark := m.partialMark || m.rowOpen }

/-- R122: one pixel of a row within the clipped rows: one of the ROI adds its difference, and one that skips
columns of the ROI leaves the row not intact. Pixels discarded outside x0 to x1, the row's last pixel apart,
leave it intact: the row is intact by the definition of R122 (DESIGN CHOICE, log 48). -/
def Metric.roiPixel (m : Metric) (a : Roi) (x v : Nat) : Metric :=
  if x < a.x0 ∨ a.x1 < x ∨ x < m.nextCol then m
  else
    let intact := m.intact && x == m.nextCol
    let diff := if a.x0 < x ∧ intact then max v m.prev - min v m.prev else 0
    { m with intact := intact, rowSum := m.rowSum + diff, prev := v, nextCol := x + 1 }

/-- R122: the last pixel of the row has been handed on: a row of which every pixel of the ROI has arrived
counts, another is dropped whole and sets the partial mark. -/
def Metric.closeRow (m : Metric) (a : Roi) : Metric :=
  let m' := { m with rowSum := 0, nextCol := m.width + 1 }
  if m.intact && m.nextCol == a.x1 + 1 then
    { m' with sum := addSum m.sum m.rowSum, rows := m.rows + 1 }
  else { m' with partialMark := true }

/-- R122: one pixel of the row in hand; the last pixel of the row closes it. -/
def Metric.pixel (m : Metric) (a : Roi) (x v : Nat) : Metric :=
  let m := m.roiPixel a x v
  if x + 1 = m.width ∧ m.rowOpen then m.closeRow a else m

def Metric.pixels (m : Metric) (a : Roi) : Nat → List (BitVec 12) → Metric
  | _, [] => m
  | x, v :: vs => (m.pixel a x (normalise m.format v)).pixels a (x + 1) vs

/-- R122: pixel data of one row, from a column on; rows outside the clipped ROI are passed over. -/
def Metric.rowData (m : Metric) (y x : Nat) (vs : List (BitVec 12)) : Metric :=
  if m.active then
    match m.clip with
    | .area a =>
      if a.y0 ≤ y ∧ y ≤ a.y1 then (m.enterRow a y).pixels a x vs else m
    | _ => m
  else m

/-- R123, step 1: whether the metered frame in hand ends partial. -/
def Metric.endsPartial (m : Metric) (a : Roi) (cutShort : Bool) : Bool :=
  m.partialMark || cutShort || decide (m.rows < a.y1 - a.y0 + 1)

/-- R123: the result of the frame in hand as it is closed. -/
def Metric.close (m : Metric) (cutShort : Bool) : MetricResult :=
  if m.active then
    match m.clip with
    | .area a =>
      let n := (a.x1 - a.x0) * m.rows
      ⟨if n = 0 then none else some (min 65535 (16 * m.sum / n)), m.endsPartial a cutShort⟩
    | _ => ⟨none, false⟩
  else ⟨none, false⟩

/-- R123: the metric unit after the frame is closed: step 1 has set the partial mark, Active becomes no
and Scan frame no. -/
def Metric.closed (m : Metric) (cutShort : Bool) : Metric :=
  { m with
      partialMark := if m.active then (m.close cutShort).partialMark else m.partialMark
      active := false
      scanFrame := false }

end Sys2Proof.Machine
end

