-- ==== Sys2Proof/Machine/Frames.lean ====
section
/-! DEFINITION. The frame store and the frame out link (R105 to R115). -/

namespace Sys2Proof.Machine

def State.slot (s : State) (n : Nat) : Slot := s.frames.slots.getD n freeSlot

def State.setSlot (s : State) (n : Nat) (x : Slot) : State :=
  { s with frames := { s.frames with slots := s.frames.slots.set n x } }

/-- R103: occupancy, the number of slots not FREE. -/
def State.occupancy (s : State) : Nat := s.frames.slots.countP fun x => x.state != .free

/-- R110: the store state is judged. -/
def judgeStore (s : State) : State :=
  if s.frames.tight then
    if s.occupancy ≤ s.img.lowMark then
      { s with frames := { s.frames with tight := false } }.latch .storeOpen none
        (.occupancy s.occupancy)
    else s
  else if s.img.highMark < s.occupancy then
    { s with frames := { s.frames with tight := true } }.latch .storeTight none
      (.occupancy s.occupancy)
  else s

/-- R114 to R116: a slot becomes FREE and loses its record. -/
def freeOne (n : Nat) (s : State) : State := judgeStore (s.setSlot n freeSlot)

/-- R106: the lowest-numbered FREE slot. -/
def State.lowestFree (s : State) : Option Nat := s.frames.slots.findIdx? fun x => x.state == .free

/-- R106: the slot record at frame start. -/
def newRecord (p : Port) (e : Exposure) (o : Origin) (number : Nat) (f : PixelFormat) (w h : Nat) :
    SlotRecord :=
  { port := p, origin := o, frameNumber := number, format := f, width := w, height := h,
    pixels := [], captureTime := e.sentAt.getD 0, positions := e.positions.getD ⟨0, 0⟩,
    metric := none, sendNumber := 0, truncated := false, linkErrors := false,
    lensMoving := e.movingMark,
    scanFrame := (match o with | .line _ _ => false | .scan _ => true), metricPartial := false }

/-- R105, R106: a frame that is to be kept takes a frame number and a slot, or is dropped. -/
def storeFrame (p : Port) (e : Exposure) (o : Origin) (f : PixelFormat) (w h : Nat) (s : State) :
    State :=
  let number := (s.port p).frameCounter
  let s := s.modPort p fun r => { r with frameCounter := wrapInc 65536 number }
  match s.lowestFree with
  | some n => judgeStore (s.setSlot n ⟨.filling, some (newRecord p e o number f w h)⟩)
  | none =>
    let count := holdInc 65535 s.frames.dropCount
    let s := { s with frames := { s.frames with dropCount := count } }
    missed p o .storeFull (s.latch .frameDropped (some p) (.frame number))

/-- R105: a triggered frame is always kept, a scan capture's frame as its scan says. -/
def Origin.kept : Origin → Bool
  | .line _ _ => true
  | .scan c => c.keep

/-- R106, R107: the slot FILLING for a port. -/
def State.fillingSlot (s : State) (p : Port) : Option (Nat × SlotRecord) :=
  match s.frames.slots.findIdx? fun x =>
      x.state == .filling && (x.record.map fun r => r.port) == some p with
  | some n => (s.slot n).record.map fun r => (n, r)
  | none => none

/-- R104, 12.3: a pixel as the slot holds it: one byte, or two with the value in the low bits, most
significant byte first (log 17). -/
def pixelBytes : PixelFormat → BitVec 12 → List Byte
  | .bits8, v => [v.setWidth 8]
  | .bits10, v => twoBytes (v.toNat % 1024)
  | .bits12, v => twoBytes v.toNat

def pixelSize : PixelFormat → Nat
  | .bits8 => 1
  | .bits10 => 2
  | .bits12 => 2

/-- R107: pixel data written into a record: the whole pixels that fit; at the first that does not, the
TRUNCATED flag is set and the rest of the frame's data is discarded (log 18). -/
def SlotRecord.fill (r : SlotRecord) (vs : List (BitVec 12)) : SlotRecord :=
  if r.truncated then r
  else
    let room := (Config.slotBytes - r.pixels.length) / pixelSize r.format
    { r with pixels := r.pixels ++ (vs.take room).flatMap (pixelBytes r.format)
             truncated := decide (room < vs.length) }

/-- R107, R52: a code error in the open frame. -/
def markErrors (p : Port) (s : State) : State :=
  match s.fillingSlot p with
  | some (n, r) => s.setSlot n ⟨.filling, some { r with linkErrors := true }⟩
  | none => s

/-- R112: a send begins when the link is UP, READY is high, none is in progress and a slot is
queued. -/
def trySend (s : State) : State :=
  match s.frames.outQueue, s.outLink.send with
  | n :: rest, none =>
    if s.outLink.state = .up ∧ s.outLink.ready then
      match (s.slot n).record with
      | some r =>
        let r := { r with sendNumber := holdInc 255 r.sendNumber }
        let s := s.setSlot n ⟨.sending, some r⟩
        let s := { s with frames := { s.frames with outQueue := rest } }
        let link := { s.outLink with
          send := some ⟨n, .record, 0, false⟩, begun := wrapInc 65536 s.outLink.begun }
        { s with outLink := link }.emit (.frameRecord (frameRecordBytes s n r) r.pixels.length)
      | none => s
    else s
  | _, _ => s

/-- R108: the end of a frame whose slot is FILLING. -/
def completeSlot (p : Port) (cutShort : Bool) (res : MetricResult) (s : State) : State :=
  match s.fillingSlot p with
  | some (n, r) =>
    let r := { r with truncated := r.truncated || cutShort, metric := res.metric,
                      metricPartial := res.partialMark }
    let s := s.setSlot n ⟨.ready, some r⟩
    let count := if r.truncated then holdInc 65535 s.frames.truncatedCount
      else s.frames.truncatedCount
    trySend { s with frames := { s.frames with
      outQueue := s.frames.outQueue ++ [n], truncatedCount := count } }
  | none => s

/-- R111: the link enters ALIGNING. -/
def startAligning (s : State) : State :=
  { s with outLink := { s.outLink with state := .aligning, alignLeft := some Config.alignUs } }.emit
    .alignment

/-- R115: the link is lost with a send in progress. -/
def giveUp (x : Send) (s : State) : State :=
  let link := { s.outLink with send := none, givenUp := holdInc 65535 s.outLink.givenUp }
  let s := { s with outLink := link }.emit (.givenUp x.slot)
  if (s.slot x.slot).state = .releasePending then freeOne x.slot s
  else
    let s := s.setSlot x.slot ⟨.ready, (s.slot x.slot).record⟩
    { s with frames := { s.frames with outQueue := x.slot :: s.frames.outQueue } }

/-- R114: the send ends. -/
def endSend (x : Send) (s : State) : State :=
  let s := { s with outLink := { s.outLink with send := none } }
  let auto := match (s.slot x.slot).record with
    | some r => s.img.autoRelease r.port
    | none => false
  if (s.slot x.slot).state = .releasePending || auto then trySend (freeOne x.slot s)
  else trySend (s.setSlot x.slot ⟨.sent, (s.slot x.slot).record⟩)

end Sys2Proof.Machine
end

