-- ==== Sys2Proof/Machine/ScanRun.lean ====
section
/-! DEFINITION. The scan sequencer: step moves, settle waits, captures, the end action, cancellation and the loader's abort (R127, R129 to R135). -/

namespace Sys2Proof.Machine

def noStep : ScanStep := { index := 0, focus := 0, iris := none, captures := 1, settle := 0 }

/-- The current step of the program (R124). -/
def Scan.current (x : Scan) : ScanStep := x.program.getD (x.step.getD 0) noStep

/-- R127: the loader is aborted. -/
def abortLoader (p : Port) (why : AbortDetail) (s : State) : State :=
  (s.modScan p fun x =>
    { x with loader := .aborted, header := none, expected := none, program := [] }).latch
    .scanAborted (some p) (.scanAborted why)

/-- R135: no step of the run has a mean. -/
def ScanResult.meanless (r : ScanResult) : Bool := (bestStep r.tallies).isNone

/-- R134, step 3: an axis with a scan move in progress is stopped, and its move source becomes
COMMAND. -/
def stopScanMove (a : AxisId) (s : State) : State :=
  let x := s.axis a
  if x.source = .scan ∧ (x.state = .moving ∨ x.state.waiting) then
    (haltAxis a (s.setAxis a { x with source := .command })).1
  else s

/-- R134, step 3: the scan moves of both axes are stopped before the wait list is re-evaluated (R68), so
that an axis of the scan that waits does not begin to move. -/
def stopScanMoves (p : Port) (s : State) : State :=
  let t := stopScanMove ⟨p, .iris⟩ (stopScanMove ⟨p, .focus⟩ s)
  if freed ⟨p, .focus⟩ s t || freed ⟨p, .iris⟩ s t then reevaluate t else t

/-- R134: a running scan is cancelled. The end action taken of a BEST run without a mean stays BEST here,
for no end action has been taken (DESIGN CHOICE, log 42). The current pass and step become absent and no
axis is left to land, of which R134 says nothing (DESIGN CHOICE, log 49). -/
def cancelScan (p : Port) (why : CancelReason) (s : State) : State :=
  let x := (s.port p).scan
  if x.loader = .running then
    let res := { x.result with
      state := .cancelled, reason := some why, passReached := x.pass.getD 0,
      stepReached := x.step.getD 0, noMetric := x.result.meanless }
    let s := s.modScan p fun x =>
      { x with loader := .cancelled, phase := none, pass := none, step := none, counter := 0,
               settleLeft := none, toLand := [], result := res }
    let s := s.modExposure p fun e => { e with held := none }
    (stopScanMoves p s).latch .scanDone (some p) (.scanDone (some why))
  else s

/-- R130: the settle wait ends and a scan capture is asked for. -/
def settleOver (p : Port) (s : State) : State :=
  let x := (s.port p).scan
  let keep := match x.header with
    | some h => h.storeFrames
    | none => false
  let s := s.modScan p fun x =>
    { x with phase := some .capture, counter := x.current.captures, settleLeft := none }
  requestCapture p ⟨x.runNumber, x.step.getD 0, x.pass.getD 0, keep⟩ s

/-- R130: the settle wait begins; a settle time of 0 ends it in the same event. -/
def beginSettle (p : Port) (s : State) : State :=
  let t := (s.port p).scan.current.settle * Config.usPerMs
  let s := s.modScan p fun x => { x with phase := some .settle, settleLeft := some t }
  if t = 0 then settleOver p s else s

/-- R132: the run is DONE. -/
def finishScan (p : Port) (s : State) : State :=
  (s.modScan p fun x =>
    { x with loader := .done, phase := none, pass := none, step := none, counter := 0,
             settleLeft := none, toLand := [],
             result := { x.result with state := .done } }).latch
    .scanDone (some p) (.scanDone none)

/-- R129, R132: every axis of the phase has landed. -/
def phaseOver (p : Port) (s : State) : State :=
  match (s.port p).scan.phase with
  | some .stepMove => beginSettle p s
  | some .endMove => finishScan p s
  | _ => s

/-- R129: a landing reported in STEP_MOVE or END_MOVE. -/
def scanLanded (a : AxisId) (s : State) : State :=
  let x := (s.port a.port).scan
  if x.loader = .running ∧ a.name ∈ x.toLand then
    let s := s.modScan a.port fun x => { x with toLand := x.toLand.filter fun n => n != a.name }
    if (s.port a.port).scan.toLand.isEmpty then phaseOver a.port s else s
  else s

/-- R129: the move requests of source SCAN, in order; the second component says that one was
refused. -/
def requestMoves (p : Port) : List (AxisName × Nat) → State → State × Bool
  | [], s => (s, false)
  | (n, t) :: rest, s =>
    let m := moveRequest .scan ⟨p, n⟩ (t : Int) s
    let s := match m.2.answer with
      | .landed => m.1.modScan p fun x => { x with toLand := x.toLand.filter fun k => k != n }
      | _ => m.1
    let refused := match m.2.answer with
      | .refused _ => true
      | _ => false
    let rest := requestMoves p rest s
    (rest.1, refused || rest.2)

/-- R129, R132: the moves of a phase are issued. -/
def issueMoves (p : Port) (phase : RunPhase) (moves : List (AxisName × Nat)) (s : State) : State :=
  let s := s.modScan p fun x =>
    { x with phase := some phase, toLand := moves.map fun m => m.1 }
  let m := requestMoves p moves s
  if m.2 then cancelScan p .moveRefused m.1
  else if (m.1.port p).scan.toLand.isEmpty then phaseOver p m.1
  else m.1

/-- R129: the moves of a step. R129 gives the two requests no order: FOCUS is requested first (DESIGN CHOICE,
log 12). -/
def ScanStep.moves (x : ScanStep) : List (AxisName × Nat) :=
  (.focus, x.focus) :: (match x.iris with | some t => [(.iris, t)] | none => [])

/-- R129: the step move of the current step. -/
def stepMove (p : Port) (s : State) : State :=
  issueMoves p .stepMove (s.port p).scan.current.moves s

/-- R132: the moves of the end action, by the action loaded and the best step, FOCUS first (DESIGN CHOICE,
log 12). -/
def endMoves (x : Scan) : List (AxisName × Nat) :=
  match x.result.loadedAction with
  | .stay => []
  | .goBack =>
    match x.back with
    | some q => [(.focus, q.focus), (.iris, q.iris)]
    | none => []
  | .best =>
    match bestStep x.result.tallies with
    | some b => (x.program.getD b.1 noStep).moves
    | none => []

/-- R132: the end action begins. -/
def endAction (p : Port) (s : State) : State :=
  let x := (s.port p).scan
  let none' := x.result.meanless
  let taken := match x.result.loadedAction with
    | .best => if none' then .stay else .best
    | e => e
  let s := s.modScan p fun x =>
    { x with result := { x.result with noMetric := none', takenAction := taken } }
  issueMoves p .endMove (endMoves x) s

/-- R131, step 1: a frame's result added to its step. -/
def StepTally.add (t : StepTally) (r : MetricResult) : StepTally :=
  match r.metric with
  | some m => { sum := t.sum + m, number := t.number + 1,
                partials := t.partials + boolCode r.partialMark }
  | none => t

/-- R131, steps 1 and 2: the result record after a capture. -/
def ScanResult.count1 (r : ScanResult) (pass step : Nat) (m : MetricResult) : ScanResult :=
  { r with
      captures := r.captures + 1, passReached := pass, stepReached := step
      tallies := r.tallies.set step ((r.tallies.getD step ⟨0, 0, 0⟩).add m) }

/-- R131: the frame of a scan capture has ended. A capture of another run, or one that ends outside
CAPTURE, changes nothing. -/
def captureEnd (p : Port) (c : Capture) (m : MetricResult) (s : State) : State :=
  let x := (s.port p).scan
  if x.loader = .running ∧ x.phase = some .capture ∧ c.run = x.runNumber then
    let pass := x.pass.getD 0
    let step := x.step.getD 0
    let s := s.modScan p fun x =>
      { x with counter := x.counter - 1, result := x.result.count1 pass step m }
    if 0 < x.counter - 1 then requestCapture p ⟨x.runNumber, step, pass, c.keep⟩ s
    else if step + 1 < x.result.count then
      stepMove p (s.modScan p fun x => { x with step := some (step + 1) })
    else if pass < x.result.passes then
      stepMove p (s.modScan p fun x => { x with step := some 0, pass := some (pass + 1) })
    else endAction p s
  else s

/-- R128: the run begins. -/
def beginRun (p : Port) (s : State) : State :=
  let r := s.port p
  match r.scan.header with
  | some h =>
    let run := wrapInc 256 r.scan.runNumber
    let res : ScanResult :=
      { state := .running, reason := none, loadedAction := h.endAction, takenAction := h.endAction,
        noMetric := false, count := h.count, passes := h.passes, passReached := 1, stepReached := 0,
        captures := 0, tallies := List.replicate h.count ⟨0, 0, 0⟩ }
    stepMove p (s.modScan p fun x =>
      { x with loader := .running, pass := some 1, step := some 0, counter := 0, runNumber := run,
               back := some ⟨countsOf r.focus.p, countsOf r.iris.p⟩, result := res })
  | none => s

/-! ### The end of a frame (R52, R97, R108, R123) -/

/-- R52, R108, R123: a frame end handed to the frame store and the metric unit; the frame is closed. -/
def closeFrame (p : Port) (cutShort : Bool) (s : State) : State × MetricResult :=
  let res := (s.port p).metric.close cutShort
  let s := (s.modLink p fun l => { l with gate := .none }).modMetric p
    fun m => m.closed cutShort
  (completeSlot p cutShort res s, res)

/-- R97: a frame end handed to the trigger unit as well: the machine returns to IDLE, a held capture is
taken, the sequencer is told of a scan capture's frame, and waiting axes go to their gates (log 12). -/
def endFrame (p : Port) (cutShort : Bool) (s : State) : State :=
  let origin := (s.port p).exposure.origin
  let m := closeFrame p cutShort s
  let s := toIdle p m.1
  let s := match origin with
    | some (.scan c) => captureEnd p c m.2 s
    | _ => s
  releaseWait .waitExposure p s

end Sys2Proof.Machine
end

