-- ==== Sys2Proof/Machine/Tdr.lean ====
section
/-! DEFINITION. The reflectometry arithmetic (R147, R148, R153, R154). A bin that a trace lacks reads as nothing: traces have 2,048 bins (WellFormed, log 33). -/

namespace Sys2Proof.Machine

/-- R148: a trace added bin by bin to the sums. -/
def addTrace : List Int → Trace → List Int
  | ss, [] => ss
  | [], b :: bs => b.toInt :: addTrace [] bs
  | s :: ss, b :: bs => (s + b.toInt) :: addTrace ss bs

/-- R148: whether any bin differs by more than the limit. -/
def disturbed (limit : Nat) : Trace → Trace → Bool
  | a :: as, b :: bs => decide ((limit : Int) < |a.toInt - b.toInt|) || disturbed limit as bs
  | _, _ => false

/-- R148: the acquisition is accepted: the first of a sweep, or one that differs from the last accepted
trace by no more than DISTURB_LIMIT in any bin. -/
def accepts (limit : Nat) (r : SweepRec) (t : Trace) : Bool :=
  match r.last with
  | none => true
  | some l => !disturbed limit l t

/-- R148: judging a completed acquisition within its sweep record. -/
def judgeTrace (limit : Nat) (r : SweepRec) (t : Trace) : SweepRec :=
  if accepts limit r t then
    { r with sums := addTrace r.sums t, n := r.n + 1, last := some t, rejections := 0,
             completed := r.completed + 1 }
  else { r with rejections := r.rejections + 1, completed := r.completed + 1 }

/-- R146, R149: a new sweep record. -/
def newSweep : SweepRec := { sums := [], n := 0, last := none, rejections := 0, completed := 0 }

/-- A first crossing: its bin k with |R[k − 1]| and |R[k]|. -/
structure Crossing where
  bin : Nat
  before : Int
  at_ : Int
deriving DecidableEq, Repr

/-- R153: the first k, not below `start`, with |R[k]| at least thr and |R[k − 1]| below it; `k` is the
bin of the list's first element and `prev` is |R[k − 1]|. -/
def crossFrom (thr : Int) (start : Nat) : Nat → Int → List Int → Option Crossing
  | _, _, [] => none
  | k, prev, x :: xs =>
    if start ≤ k ∧ thr ≤ |x| ∧ prev < thr then some ⟨k, prev, |x|⟩
    else crossFrom thr start (k + 1) |x| xs

def findCrossing (thr : Int) (start : Nat) : List Int → Option Crossing
  | [] => none
  | r0 :: rest => crossFrom thr start 1 |r0| rest

/-- R153: the crossing position F in sixteenths of a bin. -/
def Crossing.position (thr : Int) (c : Crossing) : Int :=
  16 * ((c.bin : Int) - 1) + 16 * (thr - c.before) / (c.at_ - c.before)

/-- R147: the reference trace, the launch amplitude and the zero position. -/
def calibrate (traces : List Trace) : Calibration :=
  let sum := traces.foldl addTrace []
  let q := sum.map fun x => x / 16
  let l := max 1 ((q.drop 1792).sum / 256)
  let half := l / 2
  let z := match findCrossing half 1 q with
    | some c => c.position half
    | none => 0
  ⟨q, l, z⟩

/-- R153: the port trace R. -/
def portTrace (c : Calibration) (r : SweepRec) : List Int :=
  List.zipWith (fun s q => s / (r.n : Int) - q) r.sums c.q

/-- R153: distance in mm. -/
def distanceOf (f z : Int) (vf : Nat) : Nat :=
  if f < z then 0 else ((f - z) * 37474 * vf / 16000000).toNat

/-- R153: rho, in per-mille. -/
def rhoOf (c : Calibration) (trace : List Int) (bin : Nat) : Int :=
  let m := min (bin + 8) 2047
  max (-1000) (min 1000 ((1000 * trace.getD m 0).tdiv c.l))

/-- What a classification gives (R154). -/
structure Verdict where
  cls : SweepClass
  distance : Option Nat
  rho : Option Int
  endSeen : Bool
deriving DecidableEq, Repr

/-- R154: where the cable's end window begins, mm. -/
def windowStart (length : Nat) : Nat := length - max 300 (length / 50)

/-- R154: class from the first crossing and the window. -/
def classOf (kind : SweepKind) (length distance : Nat) (rho : Int) : SweepClass × Bool :=
  if distance < windowStart length then
    if 600 ≤ rho then (.opened, false)
    else if rho ≤ -600 then (.short, false)
    else (.step, false)
  else
    match kind with
    | .live => (.none, true)
    | .dark => if 600 ≤ rho then (.none, true) else (.step, true)

/-- R153, R154: a sweep searched and classified. -/
def classify (kind : SweepKind) (th length vf : Nat) (c : Calibration) (r : SweepRec) : Verdict :=
  let trace := portTrace c r
  let thr := c.l * th / 1000
  match findCrossing thr ((c.z / 16).toNat + 8) trace with
  | some x =>
    let d := distanceOf (x.position thr) c.z vf
    let rho := rhoOf c trace x.bin
    let (cls, seen) := classOf kind length d rho
    ⟨cls, some d, some rho, seen⟩
  | none =>
    match kind with
    | .dark => ⟨.noEnd, none, none, false⟩
    | .live => ⟨.none, none, none, false⟩

end Sys2Proof.Machine
end

