-- ==== Sys2Proof/Machine/LinkOps.lean ====
section
/-! DEFINITION. The port link: training, loss of lock, going DARK, and the pieces of link time (R44 to R58). -/

namespace Sys2Proof.Machine

/-- R45, R46, R47: the link enters TRAINING with training time from 0 and sends its pattern. -/
def enterTraining (p : Port) (s : State) : State :=
  (s.modLink p fun l => { l with state := .training, trainUsed := 0 }).emit (.pattern p true)

/-- R52: a frame open at a loss of lock or a new frame start ends cut short. -/
def cutFrame (p : Port) (s : State) : State :=
  if (s.port p).link.gate = .opened then endFrame p true s else s

/-- R47: loss of lock in UP or DEGRADED: through DOWN to TRAINING. The axes go OFFLINE (R63), a running
scan is cancelled (R133), and an open frame ends (R52), in that order (log 12). -/
def loseLock (p : Port) (d : Detail) (s : State) : State :=
  let s := s.modLink p fun l =>
    { l with state := .down, windowLeft := none, highRun := 0, cleanRun := 0, lastWindow := none,
             resumeLeft := none }
  let s := enterTraining p (s.latch .linkDown (some p) d)
  cutFrame p (cancelScan p .linkLost (portOffline p s))

/-- R48: the link part as a port power-off leaves it. -/
def darkLink : LinkPart := startLink

/-- R48, R52, R98: the link becomes DARK; a frame being received ends cut short, which the trigger unit
takes as part of the power-off. -/
def linkDark (p : Port) (s : State) : State :=
  let l := (s.port p).link
  let s := if l.state = .training ∧ l.time = .free then s.emit (.pattern p false) else s
  let s := if l.gate = .opened then (closeFrame p true s).1 else s
  s.modLink p fun _ => darkLink

/-! ### Pieces (R53 to R57) -/

/-- R54: a live acquisition may be launched: the exposure machine is IDLE and no axis is MOVING,
STOPPING or WAIT_LINK. -/
def quietPort (r : PortRec) : Bool :=
  r.exposure.state == .idle && !r.focus.state.poweredMoving && !r.iris.state.poweredMoving
    && r.focus.state != .waitLink && r.iris.state != .waitLink

/-- R53, R130: the scan is in a settle wait that ends within 2 ms. -/
def settleNear (r : PortRec) : Bool :=
  match r.scan.settleLeft with
  | some t => t ≤ Config.pieceUs
  | none => false

/-- R53: the conditions of a grant, link time FREE among them. -/
def pieceAllowed (r : PortRec) : Bool :=
  r.link.time == .free && r.link.state != .dark && quietPort r && !settleNear r

def State.setEngine (s : State) (e : Engine) : State :=
  { s with locator := { s.locator with engine := e } }

/-- R53, R55, R148, R150: the session that waits for a gap is granted a piece where the conditions hold,
and its first acquisition is launched. -/
def grantPiece (s : State) : State :=
  match s.locator.engine with
  | .waitingGap se =>
    let r := s.port se.port
    if pieceAllowed r then
      let s := s.modLink se.port fun l => { l with time := .piece, waitEntered := false, resumeLeft := none }
      let s := if r.link.state = .training then s.emit (.pattern se.port false) else s
      let s := (s.emit (.quiet se.port)).emit (.stimulus se.port)
      s.setEngine (.piece { se with sweep := { se.sweep with rejections := 0 } } 1 true)
    else s
  | _ => s

/-- R57: a piece ends: link time becomes FREE, training resumes, the resumption check of R44 starts in UP
and DEGRADED, a held expose command is sent and the axes in WAIT_LINK go to their gates. -/
def pieceEnd (p : Port) (s : State) : State :=
  let l := (s.port p).link
  let s := s.emit (.quietRelease p)
  let s := if l.state = .training then s.emit (.pattern p true) else s
  let s := s.modLink p fun l =>
    { l with time := .free, waitEntered := false, heldExpose := false,
             resumeLeft := if l.state.passes then some Config.resumeUs else none }
  let s := if l.heldExpose then sendExpose p s else s
  releaseWait .waitLink p s

/-- R54: the locator reports a piece complete; in ABANDONING the stop under way goes on. -/
def pieceReported (p : Port) (s : State) : State :=
  if (s.port p).link.time = .piece then pieceEnd p s else s

/-- R43, R52: an item received on the image lane in UP or DEGRADED with the cable free; it shows that the
head's stream goes on, so the resumption check ends (R44, log 14). -/
def itemArrives (p : Port) (s : State) : State :=
  s.modLink p fun l => { l with resumeLeft := none }

/-- R43, R55: whether image-lane items reach the hub (log 13). -/
def laneOpen (s : State) (p : Port) : Bool :=
  (s.port p).link.state.passes && (s.port p).link.time == .free

end Sys2Proof.Machine
end

