-- ==== Sys2Proof/Machine/Sweeps.lean ====
section
/-! DEFINITION. The cable fault locator's work list, engine and sessions, up to the writing of a result (R139 to R155). What a result does to the power unit is in PowerOps. -/

namespace Sys2Proof.Machine

def State.modLocator (s : State) (f : Locator → Locator) : State :=
  { s with locator := f s.locator }

/-- R139: the entry of a port, of one kind. -/
def State.entry? (s : State) (p : Port) (k : SweepKind) : Option WorkEntry :=
  s.locator.work.find? fun e => e.port == p && e.kind == k

def State.setStatus (s : State) (p : Port) (k : SweepKind) (st : EntryStatus) : State :=
  s.modLocator fun l => { l with work := l.work.map fun e =>
    if e.port = p ∧ e.kind = k then { e with status := st } else e }

/-- R140: a source is added to an entry. -/
def WorkEntry.addSource (e : WorkEntry) (src : SweepSource) : WorkEntry :=
  if src ∈ e.sources then e else { e with sources := e.sources ++ [src] }

def State.mergeSource (s : State) (p : Port) (k : SweepKind) (src : SweepSource) : State :=
  s.modLocator fun l => { l with work := l.work.map fun e =>
    if e.port = p ∧ e.kind = k then e.addSource src else e }

/-- R141, R142: an entry is appended at the tail. -/
def State.addEntry (s : State) (p : Port) (k : SweepKind) (src : SweepSource) (st : EntryStatus) :
    State :=
  s.modLocator fun l => { l with work := l.work ++ [⟨p, k, [src], s.hubTime, st⟩] }

/-! ### Results (R155) -/

def SweepClass.isFault : SweepClass → Bool
  | .opened => true
  | .short => true
  | .step => true
  | .none => false
  | .noEnd => false
  | .incomplete => false
  | .cancelled => false

/-- R46, R142: the port link hears that the sweep it awaits has ended: DOWN becomes TRAINING. -/
def linkHears (p : Port) (s : State) : State :=
  if (s.port p).link.awaited then
    let s := s.modLink p fun l => { l with awaited := false }
    if (s.port p).link.state = .down then enterTraining p s else s
  else s

/-- R155: a result is written, its entry leaves the work list, SWEEP_DONE and for a fault FAULT_FOUND are
latched, and the port link hears of a LIVE result. -/
def writeResult (p : Port) (r : SweepResult) (k : SweepKind) (s : State) : State :=
  let s := s.modPort p fun q => { q with sweep := r }
  let s := s.modLocator fun l => { l with work := l.work.filter fun e =>
    !(e.port == p && e.kind == k) }
  let s := s.latch .sweepDone (some p) (.sweep k r.cls)
  let s := if r.cls.isFault then
    s.latch .faultFound (some p) (.fault r.cls (r.distance.getD 0)) else s
  if k = .live then linkHears p s else s

/-- A result without a search: INCOMPLETE or CANCELLED (R154). -/
def plainResult (k : SweepKind) (cls : SweepClass) (n now : Nat) (dist : Bool) : SweepResult :=
  { kind := some k, cls := cls, distance := none, rho := none, used := n, shortAveraged := false,
    disturbed := dist, endSeen := false, time := now }

/-- R153, R154: a sweep classified with the calibration of its work. -/
def searched (k : SweepKind) (p : Port) (r : SweepRec) (short dist : Bool) (s : State) :
    SweepResult :=
  match s.locator.calibration with
  | some c =>
    let v := classify k s.img.threshold (s.img.cableLength p) (s.img.velocity p) c r
    { kind := some k, cls := v.cls, distance := v.distance, rho := v.rho, used := r.n,
      shortAveraged := short, disturbed := dist, endSeen := v.endSeen, time := s.hubTime }
  | none => plainResult k .incomplete r.n s.hubTime dist

/-! ### The engine takes work (R146) -/

def newSession (p : Port) : Session :=
  { port := p, sweep := newSweep, deadline := Config.deadlineUs, due := false }

/-- R146: the earliest-arrived WAITING LIVE entry. -/
def State.nextLive (s : State) : Option WorkEntry :=
  s.locator.work.find? fun e => e.kind == .live && e.status == .waiting

/-- R146: an idle engine takes the earliest formed batch, else the set-aside session, else the earliest
WAITING LIVE entry; all go through calibration first (R147). -/
def engineTake (s : State) : State :=
  match s.locator.engine with
  | .idle =>
    match s.locator.formed, s.locator.setAside, s.nextLive with
    | b :: rest, _, _ =>
      (s.modLocator fun l => { l with formed := rest, engine := .calibratingBatch b }).emit
        .calibrating
    | [], some se, _ =>
      ((s.modLocator fun l => { l with setAside := none, engine := .calibratingSession se }).setStatus
        se.port .live .running).emit .calibrating
    | [], none, some e =>
      ((s.modLocator fun l => { l with engine := .calibratingSession (newSession e.port) }).setStatus
        e.port .live .running).emit .calibrating
    | [], none, none => s
  | _ => s

/-- The engine becomes IDLE and its calibration is dropped (R147, R149, R152). -/
def dropWork (s : State) : State :=
  s.modLocator fun l => { l with engine := .idle, calibration := none }

/-- R151: the session that is the engine's work is set aside, and the engine takes the batch. -/
def setSessionAside (se : Session) (s : State) : State :=
  let s := (dropWork s).modLocator fun l => { l with setAside := some se }
  engineTake (s.setStatus se.port .live .setAside)

/-- R150, R151: a piece is over and its session goes on: it is set aside for a batch formed meanwhile, or
waits for its next gap. -/
def afterPiece (se : Session) (s : State) : State :=
  if s.locator.formed.isEmpty then s.setEngine (.waitingGap se) else setSessionAside se s

/-- The live session that is the engine's work (R138). -/
def Engine.session? : Engine → Option Session
  | .calibratingSession se => some se
  | .waitingGap se => some se
  | .piece se _ _ => some se
  | .idle => none
  | .calibratingBatch _ => none
  | .darkRun .. => none

/-- R145, R152, R11: the LIVE entry of a port is cancelled: its session ends, or leaves the set-aside
place, and a CANCELLED result is written. -/
def cancelLive (p : Port) (s : State) : State :=
  if (s.entry? p .live).isSome then
    let mine (o : Option Session) : Option Session := o.filter fun se => se.port == p
    let running := mine s.locator.engine.session?
    let aside := mine s.locator.setAside
    let n := match running, aside with
      | some se, _ => se.sweep.n
      | none, some se => se.sweep.n
      | none, none => 0
    let s := if running.isSome then pieceReported p (dropWork s) else s
    let s := if aside.isSome then s.modLocator fun l => { l with setAside := none } else s
    writeResult p (plainResult .live .cancelled n s.hubTime false) .live s
  else s

/-! ### Batches (R141, R143, R149) -/

/-- R141: the port joins the gathering batch, whose window starts, or starts again, with 250 ms. -/
def joinGathering (p : Port) (s : State) : State :=
  s.modLocator fun l =>
    let ports := match l.gathering with
      | some g => g.ports
      | none => []
    { l with gathering := some ⟨ports ++ [p], Config.gatherUs⟩ }

/-- R145, R143: the port leaves the gathering batch; an emptied batch is absent. -/
def leaveGathering (p : Port) (s : State) : State :=
  s.modLocator fun l =>
    match l.gathering with
    | some g =>
      let ports := g.ports.filter fun q => q != p
      { l with gathering := if ports.isEmpty then none else some { g with ports := ports } }
    | none => l

/-- R4, R141: the port belongs to a dark batch until its DARK result is written. -/
def State.inDarkBatch (s : State) (p : Port) : Bool := (s.entry? p .dark).isSome

/-- R149: the sweep of the next port of the batch begins, or the batch is over. -/
def nextDark (finished toCome : List Port) (s : State) : State :=
  match toCome with
  | p :: rest =>
    ((s.setStatus p .dark .running).setEngine (.darkRun finished p rest newSweep)).emit (.stimulus p)
  | [] => engineTake (dropWork s)

end Sys2Proof.Machine
end

