-- ==== Sys2Proof/Machine/PowerOps.lean ====
section
/-! DEFINITION. The port power unit's paths: power-off, trip, dark requests, and what a sweep's result does (R6, R11 to R20, R140 to R142, R149, R152, R156). -/

namespace Sys2Proof.Machine

/-! ### Power-off (R11) -/

def isCorrection : ClaimKind → Bool
  | .correction _ => true
  | .powerOn => false

/-- Whether a request is the port's, of the kind named. -/
def ClaimReq.isOf (q : ClaimReq) (p : Port) (correction : Bool) : Bool :=
  q.port == p && isCorrection q.kind == correction

/-- R24: a port's queued request of one kind is withdrawn; the order of the others is kept. One in flight
goes on to its trailer, and is marked as withdrawn (R29, log 36). -/
def dropRequest (p : Port) (correction : Bool) (s : State) : State :=
  { s with claims := { s.claims with
      queue := s.claims.queue.filter fun q => !q.isOf p correction
      inFlight := s.claims.inFlight.map fun c =>
        { c with withdrawn := c.withdrawn || c.req.isOf p correction } } }

/-- R11, second stage: the power part. -/
def PowerPart.cut (q : PowerPart) (lock : Bool) : PowerPart :=
  { q with state := .off, closed := false, volatileLock := q.volatileLock || lock, history := [],
           overdraw := 0, undercurrent := 0, inrushLeft := none, correctionPending := false }

/-- R11: the port power-off in its three stages; then the port link, the frame store and the metric
unit, the trigger unit, the scan sequencer and the locator act, in that order (log 12). -/
def powerOff (p : Port) (lock : Bool) (s : State) : State :=
  let s := portOffline p s
  let s := dropRequest p true (s.modPower p fun q => q.cut lock)
  let s := s.lowering
  let s := abandonExposure p (linkDark p s)
  cancelLive p (cancelScan p .powerOff s)

/-- R6, R17, R19: the POWER_ON request of a CLAIMING port is withdrawn and the port becomes OFF. -/
def withdrawClaim (p : Port) (s : State) : State :=
  dropRequest p false (s.modPower p fun q => { q with state := .off })

/-- R19: a port is made dark; none where the request lacks the permission it needs. -/
def makeDark (p : Port) (permission : Bool) (s : State) : Option State :=
  match (s.port p).power.state with
  | .off => some s
  | .claiming => some ((withdrawClaim p s).latch .powerDenied (some p) .withdrawn)
  | .inrush | .on => if permission then some (powerOff p true s) else none

/-! ### Sweep requests (R140 to R142) -/

/-- R140, R144: what became of a sweep request. -/
inductive SweepAnswer where
  | refused (r : Reason)
  | merged
  | new
deriving DecidableEq, Repr

/-- R140, R141: a DARK request. A LIVE entry of the port goes with its power-off, and the DARK one that replaces
it joins the work list at the tail (DESIGN CHOICE, log 47). -/
def requestDark (p : Port) (src : SweepSource) (permission : Bool) (s : State) :
    State × SweepAnswer :=
  if (s.entry? p .dark).isSome then (s.mergeSource p .dark src, .merged)
  else if (s.entry? p .live).isSome && !permission then (s, .refused .portPowered)
  else
    match makeDark p permission s with
    | none => (s, .refused .portPowered)
    | some t => (joinGathering p ((cancelLive p t).addEntry p .dark src .gathering), .new)

/-- R140, R142: a LIVE request. -/
def requestLive (p : Port) (src : SweepSource) (s : State) : State × SweepAnswer :=
  if (s.entry? p .dark).isSome then (s.mergeSource p .dark src, .merged)
  else if (s.entry? p .live).isSome then (s.mergeSource p .live src, .merged)
  else if (s.port p).power.state ≠ .on then (s, .refused (.power (s.port p).power.state))
  else (engineTake (s.addEntry p .live src .waiting), .new)

/-- R12: the trip path: power-off with the volatile lockout, then a DARK request. `count` is the trip
count's rise, and the event is PORT_TRIPPED or OPEN_SUSPECT. -/
def tripPath (p : Port) (count : Bool) (e : EventName) (d : Detail) (src : SweepSource) (s : State) :
    State :=
  let s := powerOff p true s
  let s := if count then s.modPower p fun q => { q with tripCount := holdInc 65535 q.tripCount }
    else s
  let s := s.latch e (some p) d
  engineTake (requestDark p src true s).1

/-! ### Results (R13, R16, R20, R156) -/

/-- R13, R14, R16, R156: what a DARK result does to the power unit. -/
def applyDark (p : Port) (cls : SweepClass) (s : State) : State :=
  match cls with
  | .none => s.modPower p fun q => { q with volatileLock := false, clean := true }
  | .opened | .short => setRetained p true (s.modPower p fun q => { q with clean := false })
  | .step | .noEnd => s.modPower p fun q => { q with clean := false }
  | .incomplete | .cancelled => s

/-- R20, R156: a live OPEN or SHORT powers the port off, or sets its volatile lockout, and raises a DARK
request. -/
def applyLive (p : Port) (cls : SweepClass) (s : State) : State :=
  match cls with
  | .opened | .short =>
    let s := if (s.port p).power.state.powered then powerOff p true s
      else s.modPower p fun q => { q with volatileLock := true }
    (requestDark p .liveResult true s).1
  | .none | .step | .noEnd | .incomplete | .cancelled => s

/-- R152, R155, R156: a live session that was the engine's work ends with a result, its piece reported
complete; the engine takes its next work. The port link is told of the result before a power-off (DESIGN CHOICE,
log 12). -/
def endSession (se : Session) (r : SweepResult) (s : State) : State :=
  let s := pieceReported se.port (dropWork s)
  grantPiece (engineTake (applyLive se.port r.cls (writeResult se.port r .live s)))

/-- R149, R155, R156: the dark sweep of a port ends, and the next port's begins. A rejection run that reaches 4
with the sixty-fourth acquisition flags DISTURBED as well (DESIGN CHOICE, log 46). -/
def endDark (finished : List Port) (p : Port) (toCome : List Port) (r : SweepRec) (s : State) :
    State :=
  let dist := decide (r.rejections = 4)
  let res := if dist && r.n < 4 then plainResult .dark .incomplete r.n s.hubTime dist
    else searched .dark p r false dist s
  nextDark (finished ++ [p]) toCome (applyDark p res.cls (writeResult p res .dark s))

end Sys2Proof.Machine
end

