-- ==== Sys2Proof/Machine/ClaimOps.lean ====
section
/-! DEFINITION. The power claim unit: composing a claim and settling it at its trailer (R10, R25 to R29). -/

namespace Sys2Proof.Machine

/-- R29: the port of a request is no longer in the state that the request was made for. -/
def State.hasLeft (s : State) (q : ClaimReq) : Bool :=
  match q.kind with
  | .powerOn => (s.port q.port).power.state != .claiming
  | .correction _ => (s.port q.port).power.state != .on

/-- R26: the standing and the surge a request is composed with. A withdrawn request that MUTE has put back
(R164) is composed as any other, and marked again (log 36). -/
def composed (s : State) (q : ClaimReq) : ClaimInFlight :=
  match q.kind with
  | .powerOn =>
    { req := q
      standing := s.claims.granted + (s.port q.port).power.figure
        + (if s.claims.reserveHeld then 0 else s.img.lensReserve)
      surge := s.img.surcharge q.port
      withdrawn := s.hasLeft q }
  | .correction f =>
    { req := q, standing := s.claims.granted + (f - (s.port q.port).power.figure), surge := 0,
      withdrawn := s.hasLeft q }

/-- R25: the head of the claim queue is taken when all its conditions hold, and its CLAIM joins the
transmit queue. -/
def tryClaim (s : State) : State :=
  match s.claims.queue with
  | q :: rest =>
    if s.claimReady && !s.txFull then
      { s with claims := { s.claims with queue := rest, inFlight := some (composed s q) } }.joinTx
        .claim
    else s
  | [] => s

/-- R24: a request joins the claim queue at its tail. At most one for each port stands in the queue: a
withdrawn one of the same port, which MUTE has put back (R164), leaves it (log 36). -/
def joinClaims (q : ClaimReq) (s : State) : State :=
  { s with claims := { s.claims with
      queue := (s.claims.queue.filter fun x => x.port != q.port) ++ [q] } }

/-- R3: the switch closes on a grant. -/
def closeSwitch (p : Port) (s : State) : State :=
  s.modPower p fun q =>
    { q with state := .inrush, closed := true, inrushLeft := some Config.inrushUs }

/-- R27, step 2: the port power unit is told of a grant, where the port is still in the state the request
was made for; the wait list is re-evaluated where reserve held becomes yes (R31, R68). -/
def grantPort (q : ClaimReq) (s : State) : State :=
  match q.kind with
  | .powerOn =>
    if (s.port q.port).power.state = .claiming then
      let had := s.claims.reserveHeld
      let s := closeSwitch q.port { s with claims := { s.claims with reserveHeld := true } }
      if had then s else reevaluate s
    else s
  | .correction f =>
    if (s.port q.port).power.state = .on then
      s.modPower q.port fun w => { w with figure := f, correctionPending := false }
    else s

/-- R27, R29: a claim is granted; a withdrawn request's grant reaches no port. -/
def grantClaim (c : ClaimInFlight) (s : State) : State :=
  let s := { s with claims := { s.claims with granted := c.standing } }
  let s := s.announce c.standing (surgeOf s.hubTime c.surge Config.surgeMs)
  let s := if c.withdrawn then s else grantPort c.req s
  let s := if s.required < s.claims.granted then s.lowering else s
  tryClaim { s with claims := { s.claims with inFlight := none } }

/-- R28: backoff, in ms. -/
def backoffMs (station : Nat) : Nat := 100 + 20 * station

/-- R10, R28: a port is shed. -/
def shedPort (p : Port) (figure : Nat) (s : State) : State :=
  engineTake ((powerOff p false s).latch .portShed (some p) (.figure figure))

/-- R28: attempts a power-on request has. -/
def claimAttempts : Nat := 8

/-- R28, R29: a claim is objected. -/
def objectClaim (c : ClaimInFlight) (s : State) : State :=
  let q := c.req
  let s := { s with claims := { s.claims with
    inFlight := none, backoff := some (backoffMs s.station * Config.usPerMs) } }
  if c.withdrawn then s
  else match q.kind with
  | .powerOn =>
    if (s.port q.port).power.state = .claiming then
      if q.attempts + 1 < claimAttempts then
        { s with claims := { s.claims with
            queue := { q with attempts := q.attempts + 1 } :: s.claims.queue } }
      else
        (s.modPower q.port fun w => { w with state := .off }).latch .powerDenied (some q.port)
          .attempts
    else s
  | .correction f =>
    if (s.port q.port).power.state = .on then shedPort q.port f s else s

/-- R27 to R29: the trailer of the own CLAIM settles the claim in flight. -/
def settleClaim (flaw hold : Bool) (s : State) : State :=
  match s.claims.inFlight with
  | some c => if hold || flaw then objectClaim c s else grantClaim c s
  | none => s

/-- R24, R41, R164: a claim in flight is taken back: its request returns to the head with its attempts, a
withdrawn one too, but where a newer request of its port stands in the queue (at most one for each port,
R24; log 36). -/
def takeBackClaim (s : State) : State :=
  match s.claims.inFlight with
  | some c =>
    { s with claims := { s.claims with
        inFlight := none
        queue := if c.withdrawn && s.claims.queue.any (fun q => q.port == c.req.port) then s.claims.queue
          else c.req :: s.claims.queue } }
  | none => s

/-- R10: a correction figure from the history. -/
def correctionFigure (history : List Nat) : Nat := min 1500 (roundUp50 (history.foldl max 0))

/-- R10: the overdraw run of a port in ON has reached 20. -/
def overdraw (p : Port) (s : State) : State :=
  let q := (s.port p).power
  let f := correctionFigure q.history
  if q.correctionPending then s
  else if f = q.figure then shedPort p f s
  else
    tryClaim (joinClaims ⟨p, .correction f, 0⟩
      (s.modPower p fun w => { w with correctionPending := true }))

end Sys2Proof.Machine
end

