-- ==== Sys2Proof/Machine/Answers.lean ====
section
/-! DEFINITION. What a command's owner answers, and the argument checks of R172. -/

namespace Sys2Proof.Machine

/-- R172: a status, a reason where the status is REFUSED, and the results. -/
structure Answer where
  status : Status
  reason : Reason
  results : List Byte
deriving DecidableEq, Repr

def done (bs : List Byte) : Answer := ⟨.done, .none, bs⟩
def accepted (bs : List Byte) : Answer := ⟨.accepted, .none, bs⟩
/-- R173: a refusal has no results. -/
def refuse (r : Reason) : Answer := ⟨.refused, r, []⟩

/-- R172: a port above 3 fails. -/
def portArg (b : Byte) : Option Port := if h : b.toNat < 4 then some ⟨b.toNat, h⟩ else none

/-- R172, 12.2: an axis above 7 fails; port × 2, plus 1 for IRIS. -/
def axisArg (b : Byte) : Option AxisId :=
  if h : b.toNat < 8 then
    some ⟨⟨b.toNat / 2, by omega⟩, if b.toNat % 2 = 0 then .focus else .iris⟩
  else none

/-- R172: a slot above 31 fails. -/
def slotArg (b : Byte) : Option Nat := if b.toNat < 32 then some b.toNat else none

/-- R172: a station above 14 fails. -/
def stationArg (b : Byte) : Option Nat := if b.toNat < 15 then some b.toNat else none

/-- A byte of 0 or 1 for no and yes; another value is an item the command does not know (log 21). -/
def yesNoArg (b : Byte) : Option Bool :=
  if b = 0 then some false else if b = 1 then some true else none

/-- Milliseconds of a time left, rounded down (log 9). -/
def msOf (us : Nat) : Nat := us / Config.usPerMs

/-- R172: a command on a port. -/
def onPort (b : Byte) (s : State) (f : Port → State × Answer) : State × Answer :=
  match portArg b with
  | some p => f p
  | none => (s, refuse .badArgument)

/-- R172: a command on an axis. -/
def onAxis (b : Byte) (s : State) (f : AxisId → State × Answer) : State × Answer :=
  match axisArg b with
  | some a => f a
  | none => (s, refuse .badArgument)

/-- R172: a command on a slot. -/
def onSlot (b : Byte) (s : State) (f : Nat → State × Answer) : State × Answer :=
  match slotArg b with
  | some n => f n
  | none => (s, refuse .badArgument)

end Sys2Proof.Machine
end

