-- ==== Sys2Proof/Machine/ConfigCommands.lean ====
section
/-! DEFINITION. The effects of READ_EVENTS and of the configuration commands (R178, R182). RESTART is in CommandUnit. -/

namespace Sys2Proof.Machine

/-- R178: one latched entry: name, port, detail, hub time, count. R178 and R186 do not lay it out: the name
goes by its code, as in a REPORT, and the detail by the six bytes that a REPORT gives it, those not filled
sent as 0 (DESIGN CHOICE, log 9). -/
def eventBytes (index : Nat) (e : EventEntry) : List Byte :=
  if e.latched then
    oneByte (index + 1) ++ portByte e.port
      ++ padTo 6 (match e.detail with | some d => detailBytes d | none => [])
      ++ beBytes 4 e.time ++ oneByte e.count
  else []

/-- R178: the latched entries in the order of the event table, from the index `k` on, with no count before
them (DESIGN CHOICE, log 9). -/
def eventList : Nat → List EventEntry → List Byte
  | _, [] => []
  | k, e :: es => eventBytes k e ++ eventList (k + 1) es

/-- R159: the counters of the cell line interface, in the order of that table. -/
def counterBytes (c : LineCounters) : List Byte :=
  [c.rxErrors, c.undefinedKinds, c.sameNumber, c.arbLosses, c.txFailures, c.mutes, c.reportsNotSent,
    c.repliesNotSent].flatMap twoBytes

/-- R178: an entry is cleared unless the keep mask holds it and it is not named. Its hub time stays (DESIGN
CHOICE, log 43). -/
def clearEntry (img : ConfigImage) (release : BitVec 32) (k : Nat) (e : EventEntry) : EventEntry :=
  if e.latched && (!(img.item 11 0).testBit k || release.toNat.testBit k) then
    { clearedEntry with time := e.time }
  else e

def clearFrom (img : ConfigImage) (release : BitVec 32) : Nat → List EventEntry → List EventEntry
  | _, [] => []
  | k, e :: es => clearEntry img release k e :: clearFrom img release (k + 1) es

/-- R178: READ_EVENTS: the results first, then the clear. A bit that names no event is an item the
command does not know (R172, log 21). -/
def cmdReadEvents (release : BitVec 32) (s : State) : State × Answer :=
  if 2 ^ 25 ≤ release.toNat then (s, refuse .badArgument)
  else
    ({ s with events := clearFrom s.img release 0 s.events },
      done (eventList 0 s.events ++ counterBytes s.line.counters ++ twoBytes s.commands.taken
        ++ twoBytes s.commands.overflows))

/-- R182: the number of operations queued, and the generation of the newest image fully written since
start. -/
def storeProgress (s : State) : List Byte :=
  oneByte s.store.queue.length ++ optBytes 2 s.store.newestWritten

/-- R182: CONFIG_WRITE. The value in force since the last start is that of the image in force, as it is stored
there (DESIGN CHOICE, log 44). -/
def cmdConfigWrite (item index : Byte) (value : BitVec 32) (s : State) : State × Answer :=
  match itemPlace item.toNat index.toNat with
  | none => (s, refuse .badArgument)
  | some k =>
    let s := { s with store := { s.store with
      working := s.store.working.write item.toNat index.toNat value } }
    (s, done ([item, index] ++ beBytes 4 (s.store.working.getD k 0).toNat
      ++ beBytes 4 (s.img.getD k 0).toNat ++ storeProgress s))

/-- R182: the generation the next commit carries. -/
def nextGeneration (last : Option Nat) : Nat :=
  match last with
  | some g => wrapInc 65536 g
  | none => 0

/-- R182: CONFIG_COMMIT: its place in the queue as it joins (log 24) and its generation. -/
def cmdConfigCommit (s : State) : State × Answer :=
  if storePlaces ≤ s.store.queue.length then (s, refuse .storeBusy)
  else
    let g := nextGeneration s.store.lastGeneration
    let place := s.store.queue.length
    let s := runStore { s with store := { s.store with
      queue := s.store.queue ++ [.image ⟨g, s.store.working⟩], lastGeneration := some g } }
    (s, accepted (oneByte place ++ twoBytes g ++ storeProgress s))

end Sys2Proof.Machine
end

