-- ==== Sys2Proof/Machine/FrameCommands.lean ====
section
/-! DEFINITION. The effects of the frame commands and of READ_MISSED (R102, R116 to R119). -/

namespace Sys2Proof.Machine

/-- R116: the slot's state after the command, and the port and frame number of the record it acted
on. -/
def releaseResults (after : SlotState) (r : Option SlotRecord) : List Byte :=
  oneByte (slotCode after) ++ optByte (r.map fun r => r.port.val)
    ++ optBytes 2 (r.map fun r => r.frameNumber)

/-- R116 -/
def releaseSlot (n : Nat) (s : State) : State × Answer :=
  let x := s.slot n
  match x.state with
  | .ready =>
    let queue := s.frames.outQueue.filter fun m => m != n
    (freeOne n { s with frames := { s.frames with outQueue := queue } },
      done (releaseResults .free x.record))
  | .sent => (freeOne n s, done (releaseResults .free x.record))
  | .sending =>
    (s.setSlot n ⟨.releasePending, x.record⟩, accepted (releaseResults .releasePending x.record))
  | .releasePending => (s, accepted (releaseResults .releasePending x.record))
  | .filling => (s, refuse .slotBusy)
  | .free => (s, refuse .slotFree)

/-- R116: FRAME_RELEASE. -/
def cmdFrameRelease (b : Byte) (s : State) : State × Answer := onSlot b s fun n => releaseSlot n s

/-- R117: FRAME_RESEND. -/
def cmdFrameResend (b : Byte) (s : State) : State × Answer :=
  onSlot b s fun n =>
    let x := s.slot n
    match x.state with
    | .sent =>
      let s := s.setSlot n ⟨.ready, x.record⟩
      (trySend { s with frames := { s.frames with outQueue := s.frames.outQueue ++ [n] } }, done [])
    | .ready | .sending | .releasePending => (s, done [])
    | .filling => (s, refuse .slotBusy)
    | .free => (s, refuse .slotFree)

/-- R118: FRAME_HEADER: the state, the slot record and the place in the outbound queue, which is counted
from 0 at its head (DESIGN CHOICE, log 9). -/
def cmdFrameHeader (b : Byte) (s : State) : State × Answer :=
  onSlot b s fun n =>
    let x := s.slot n
    match x.record with
    | some r =>
      if x.state = .free then (s, refuse .slotFree)
      else
        (s, done (oneByte (slotCode x.state) ++ frameRecordBytes s n r
          ++ optByte (if x.state = .ready then s.frames.outQueue.findIdx? fun m => m == n
              else none)))
    | none => (s, refuse .slotFree)

/-- R119, R186: a slot: its state, and the port and frame number of a slot not FREE. -/
def slotStatus (x : Slot) : List Byte :=
  oneByte (slotCode x.state) ++ optByte (x.record.map fun r => r.port.val)
    ++ optBytes 2 (x.record.map fun r => r.frameNumber)

/-- R119, R186: the send in progress: slot, part, bytes sent, paused. -/
def sendStatus : Option Send → List Byte
  | some x =>
    [1] ++ oneByte x.slot ++ oneByte (sendPartCode x.part) ++ beBytes 3 x.bytesSent
      ++ flagByte x.paused
  | none => [0, 0, 0, 0, 0, 0, 0]

/-- R119: everything STORE_STATUS gives, laid out as R186 has it, in 11 to 13 parts; the 9 parts of a sequence of
chapter 10 are not met (DESIGN CHOICE, logs 9, 23 and 38). -/
def storeStatusBytes (s : State) : List Byte :=
  flagByte s.frames.tight ++ oneByte s.occupancy ++ oneByte s.img.highMark
    ++ oneByte s.img.lowMark ++ s.frames.slots.flatMap slotStatus
    ++ s.frames.outQueue.flatMap oneByte
    ++ allPorts.flatMap (fun p =>
        twoBytes (s.port p).frameCounter ++ flagByte (s.img.autoRelease p))
    ++ twoBytes s.frames.dropCount ++ twoBytes s.frames.truncatedCount
    ++ oneByte (outLinkCode s.outLink.state) ++ flagByte s.outLink.ready
    ++ sendStatus s.outLink.send ++ twoBytes s.outLink.begun ++ twoBytes s.outLink.givenUp

/-- R119: STORE_STATUS. -/
def cmdStoreStatus (s : State) : State × Answer := (s, done (storeStatusBytes s))

/-- R186: the origin of a missed record: for a SCAN the third byte is 0xFF (log 37). -/
def missedOrigin : Origin → List Byte
  | .line l q => oneByte 0 ++ oneByte l ++ oneByte q
  | .scan c => oneByte 1 ++ oneByte c.step ++ [0xFF]

/-- R186: a missed record, 12 bytes. -/
def missedBytes (m : Missed) : List Byte :=
  twoBytes m.number ++ missedOrigin m.origin ++ oneByte m.port.val ++ oneByte (missCode m.reason)
    ++ beBytes 4 m.time ++ [0]

/-- R102: the records from a number on; a number that lies in none of them gives all. -/
def missedFrom (n : Nat) (ms : List Missed) : List Missed :=
  let tail := ms.dropWhile fun m => m.number != n
  if tail.isEmpty then ms else tail

/-- R186: the line table entries of the valid lines, from the line whose number is `k` on. -/
def lineStatus : Nat → List LineEntry → List Byte
  | _, [] => []
  | k, e :: es =>
    (if e.valid then oneByte k ++ oneByte e.last ++ twoBytes e.staleCount else [])
      ++ lineStatus (k + 1) es

/-- R102, R186: everything READ_MISSED gives. -/
def missedStatus (n : Nat) (s : State) : List Byte :=
  let t := s.triggers
  let ms := missedFrom n t.missed
  let oldest := match t.missed with
    | m :: _ => m.number
    | [] => t.nextRecord
  twoBytes oldest ++ twoBytes t.nextRecord ++ twoBytes t.dropped ++ oneByte ms.length
    ++ ms.flatMap missedBytes ++ lineStatus 0 t.lines
    ++ twoBytes t.sense0.overrun ++ twoBytes t.sense1.overrun

/-- R102: READ_MISSED. -/
def cmdReadMissed (record : BitVec 16) (s : State) : State × Answer :=
  (s, done (missedStatus record.toNat s))

end Sys2Proof.Machine
end

