-- ==== Sys2Proof/Machine/LensCommands.lean ====
section
/-! DEFINITION. The effects of the lens commands (R61, R65, R78, R80, R83, R84). -/

namespace Sys2Proof.Machine

/-- R65: the results of a taken LENS_MOVE: the CLAMPED flag, the axis state, the target in counts, and
where a power check was made the allowance and VMAXe. -/
def moveResults (x : AxisRec) (m : MoveResult) : List Byte :=
  flagByte m.clamped ++ oneByte (axisCode x.state) ++ twoBytes m.target
    ++ optBytes 2 (if m.checked then some x.allowance else none)
    ++ optBytes 2 (if m.checked then x.vmaxe else none)

/-- R65, R66: LENS_MOVE. -/
def cmdLensMove (b mode : Byte) (target : BitVec 24) (s : State) : State × Answer :=
  onAxis b s fun a =>
    match yesNoArg mode with
    | none => (s, refuse .badArgument)
    | some relative =>
      if (s.port a.port).scan.loader = .running then (s, refuse .scanActive)
      else
        let want := if relative then (countsOf (s.axis a).t : Int) + target.toInt else target.toInt
        let m := moveRequest .command a want s
        match m.2.answer with
        | .refused r => (m.1, refuse r)
        | .landed => (m.1, done (moveResults (m.1.axis a) m.2))
        | .accepted => (m.1, accepted (moveResults (m.1.axis a) m.2))

/-- R78: LENS_STOP. -/
def cmdLensStop (b : Byte) (s : State) : State × Answer :=
  onAxis b s fun a =>
    if (s.port a.port).scan.loader = .running then (s, refuse .scanActive)
    else
      let m := stopAxis a s
      (grantPiece m.1, if m.2 then accepted [] else done [])

/-- R61: parameters are loaded at once in REST and HOLDING, and staged elsewhere. -/
def AxisRec.writeParam (x : AxisRec) (n v : Nat) : AxisRec :=
  let x := { x with shadow := x.shadow.write n v }
  match x.state with
  | .rest | .holding => x.load
  | _ => { x with staged := true }

/-- R61: LENS_SET_PARAM. -/
def cmdLensSetParam (b param : Byte) (value : BitVec 16) (s : State) : State × Answer :=
  onAxis b s fun a =>
    if 15 ≤ param.toNat then (s, refuse .badArgument)
    else
      let x := s.axis a
      let y := x.writeParam param.toNat value.toNat
      let s := s.setAxis a y
      let s := if y.allowance < x.allowance then reevaluate s else s
      (s, done (flagByte y.staged ++ twoBytes value.toNat
        ++ twoBytes (y.params.values.getD param.toNat 0)))

/-- R80, R83: P placed at the last valid report, clamped; T becomes P and both counters 0. -/
def AxisRec.placed (x : AxisRec) (use : Bool) : AxisRec :=
  let p := match x.last with
    | some h => if use then x.params.within (h.pos.toNat * 256) else x.p
    | none => x.p
  { x with p := p, t := p, bad := 0, follow := 0 }

/-- R80: LENS_RECOVER. The staged set is loaded before P is placed. -/
def cmdLensRecover (b : Byte) (s : State) : State × Answer :=
  onAxis b s fun a =>
    let x := s.axis a
    if x.state = .lost then (s.setAxis a (x.loadStaged.placed true).enterRest, done [])
    else (s, done [])

/-- R83: one FROZEN axis released. -/
def releaseFrozen (s : State) (a : AxisId) : State :=
  let x := s.axis a
  if x.state = .frozen then s.setAxis a (x.placed x.sinceFreeze).enterRest else s

/-- R83: FREEZE_RELEASE. -/
def cmdFreezeRelease (s : State) : State × Answer :=
  if s.lens.guardActive then (s, refuse .guardActive)
  else
    (allAxes.foldl releaseFrozen s,
      done (oneByte (allAxes.countP fun a => (s.axis a).state == .frozen)))

/-- R59, R186: the direction, +1 or −1, in two's complement. -/
def dirByte : EndSide → List Byte
  | .far => [1]
  | .near => [0xFF]

/-- R84, R186: the shadow set where Staged is yes; its bytes are 0 where it is absent. A value above 65,535
is carried by its low 16 bits (DESIGN CHOICE, log 9). -/
def shadowStatus (x : AxisRec) : List Byte :=
  if x.staged then 1 :: x.shadow.values.flatMap twoBytes
  else 0 :: x.shadow.values.flatMap fun _ => twoBytes 0

/-- R84: everything AXIS_STATUS gives. The place on the wait list is counted from 0 at its head (DESIGN
CHOICE, log 9). -/
def axisStatus (s : State) (a : AxisId) : List Byte :=
  let x := s.axis a
  oneByte (axisCode x.state) ++ optByte (x.stopKind.map stopKindCode)
    ++ optByte (x.activeEnd.map sideCode)
    ++ beBytes 3 x.p ++ twoBytes (countsOf x.p) ++ twoBytes x.v
    ++ dirByte x.dir ++ twoBytes (countsOf x.t)
    ++ optBytes 2 x.vmaxe ++ twoBytes x.allowance ++ optBytes 2 (x.hold.map msOf)
    ++ optByte (s.lens.waitList.findIdx? fun b => b == a) ++ oneByte (sourceCode x.source)
    ++ (match x.last with
        | some h => [1] ++ twoBytes h.pos.toNat ++ flagByte h.near ++ flagByte h.far
        | none => [0, 0, 0, 0, 0])
    ++ oneByte x.bad ++ oneByte x.follow
    ++ x.params.values.flatMap twoBytes ++ flagByte x.staged ++ shadowStatus x
    ++ twoBytes s.reserveAmount ++ twoBytes s.allowances ++ oneByte s.lens.waitList.length
    ++ oneByte (guardCode s.lens.guardActive) ++ twoBytes s.img.dfreeze

/-- R84: AXIS_STATUS. -/
def cmdAxisStatus (b : Byte) (s : State) : State × Answer :=
  onAxis b s fun a => (s, done (axisStatus s a))

end Sys2Proof.Machine
end

