-- ==== Sys2Proof/Machine/PortCommands.lean ====
section
/-! DEFINITION. The effects of the port, power and cell commands (R4, R6, R17, R18, R21, R39). -/

namespace Sys2Proof.Machine

/-- R4: the checks of PORT_POWER_ON, in order. -/
def powerOnRefusal (s : State) (p : Port) : Option Reason :=
  let q := (s.port p).power
  if !s.img.enabled p then some .portDisabled
  else if q.volatileLock || q.retainedLock then some .lockedOut
  else if s.inDarkBatch p then some .sweepPending
  else none

/-- R4, once its checks have passed. -/
def powerOnPort (p : Port) (s : State) : State × Answer :=
  match (s.port p).power.state with
  | .off =>
    (tryClaim (joinClaims ⟨p, .powerOn, 0⟩ (s.modPower p fun q => { q with state := .claiming })),
      accepted [])
  | .claiming => (s, accepted [])
  | .inrush | .on => (s, done [])

/-- R4: PORT_POWER_ON. -/
def cmdPortPowerOn (b : Byte) (s : State) : State × Answer :=
  onPort b s fun p =>
    match powerOnRefusal s p with
    | some r => (s, refuse r)
    | none => powerOnPort p s

/-- R6: PORT_POWER_OFF. -/
def cmdPortPowerOff (b : Byte) (s : State) : State × Answer :=
  onPort b s fun p =>
    match (s.port p).power.state with
    | .off => (s, done [])
    | .claiming => (withdrawClaim p s, done [])
    | .inrush | .on => (engineTake (powerOff p false s), done [])

/-- R17: SET_LOCKOUT. -/
def cmdSetLockout (b : Byte) (s : State) : State × Answer :=
  onPort b s fun p =>
    let t := s.modPower p fun q => { q with volatileLock := true }
    match (s.port p).power.state with
    | .off => (t, done [])
    | .claiming => (withdrawClaim p t, done [])
    | .inrush | .on => (engineTake (powerOff p true t), done [])

/-- R18: CLEAR_LOCKOUT. -/
def cmdClearLockout (b kind : Byte) (s : State) : State × Answer :=
  onPort b s fun p =>
    let q := (s.port p).power
    if kind = 0 then (s.modPower p fun q => { q with volatileLock := false }, done [])
    else if kind = 1 then
      if !q.retainedLock then (s, done [])
      else if q.clean then (setRetained p false s, done [])
      else (s, refuse .notClean)
    else (s, refuse .badArgument)

/-! ### PORT_STATUS (R21, R42, R90) -/

/-- R21: the power part. -/
def powerStatus (s : State) (p : Port) : List Byte :=
  let q := (s.port p).power
  let greatest := if q.history.isEmpty then none else some (q.history.foldl max 0)
  flagByte (s.img.enabled p) ++ oneByte (powerCode q.state) ++ flagByte q.closed
    ++ twoBytes q.figure ++ twoBytes (s.img.figure p)
    ++ flagByte q.volatileLock ++ flagByte q.retainedLock
    ++ optByte (q.pendingRecord.map lockMarkCode) ++ flagByte q.clean
    ++ twoBytes q.latest ++ optBytes 2 greatest ++ flagByte q.correctionPending
    ++ twoBytes q.tripCount

/-- R42: every field of the link part; the awaited sweep is carried as its presence (DESIGN CHOICE, log 9). -/
def linkStatus (l : LinkPart) : List Byte :=
  oneByte (linkCode l.state) ++ twoBytes (msOf l.trainUsed) ++ flagByte l.awaited
    ++ oneByte l.timeouts ++ twoBytes l.windowCount ++ optByte (l.windowLeft.map msOf)
    ++ oneByte l.highRun ++ oneByte l.cleanRun ++ optBytes 2 l.lastWindow ++ twoBytes l.unasked
    ++ oneByte (linkTimeCode l.time) ++ flagByte l.heldExpose

/-- R90: an origin as PORT_STATUS gives it: kind, line or run, sequence or step, 0 or pass (log 9). -/
def originStatus : Option Origin → List Byte
  | none => [0, 0, 0, 0, 0]
  | some (.line l q) => [1] ++ oneByte 0 ++ oneByte l ++ oneByte q ++ oneByte 0
  | some (.scan c) => [1] ++ oneByte 1 ++ oneByte c.run ++ oneByte c.step ++ oneByte c.pass

/-- R90: every field of the exposure part, the remaining time in µs. -/
def exposureStatus (e : Exposure) : List Byte :=
  oneByte (exposureCode e.state) ++ originStatus e.origin ++ optBytes 4 e.takenAt
    ++ optBytes 3 e.timer ++ optBytes 4 e.sentAt
    ++ optBytes 4 (e.positions.map fun q => q.focus * 65536 + q.iris)
    ++ flagByte e.movingMark
    ++ optBytes 3 (e.held.map fun c => (c.run * 256 + c.step) * 256 + c.pass)
    ++ twoBytes e.taken ++ twoBytes e.timeouts

/-- R21, R139: the sweep state of the port's cable. R21 lists no value for a set-aside entry, which R139
reports as listed with SET_ASIDE named: the byte is the position of the entry's status in the list of R139
(SET_ASIDE = 4), and 0xFF where the port has no entry (DESIGN CHOICE, log 9). -/
def sweepStatus (s : State) (p : Port) : List Byte :=
  optByte ((s.locator.work.find? fun e => e.port == p).map fun e => entryStatusCode e.status)

/-- R21 -/
def portStatus (s : State) (p : Port) : List Byte :=
  let r := s.port p
  powerStatus s p ++ linkStatus r.link ++ exposureStatus r.exposure
    ++ oneByte (axisCode r.focus.state) ++ oneByte (axisCode r.iris.state)
    ++ oneByte (loaderCode r.scan.loader) ++ sweepStatus s p

/-- R21: PORT_STATUS. -/
def cmdPortStatus (b : Byte) (s : State) : State × Answer :=
  onPort b s fun p => (s, done (portStatus s p))

/-! ### The cell view (R39) -/

/-- R39: FORGET_STATION. -/
def cmdForgetStation (b : Byte) (s : State) : State × Answer :=
  match stationArg b with
  | none => (s, refuse .badArgument)
  | some n =>
    if n = s.station then (s, refuse .badArgument)
    else ({ s with view := s.view.filter fun e => e.station != n }, done [])

/-- R39: one entry of the view. R39 gives neither the entry's station number a place nor the time since it
was last heard a unit or a width: the station's byte stands first, and the time is in ms, rounded down, in 4
bytes (DESIGN CHOICE, log 9). -/
def entryStatus (now : Nat) (e : CellEntry) : List Byte :=
  oneByte e.station ++ twoBytes e.standing
    ++ optBytes 4 ((e.unexpired now).map fun g => g.amount * 65536 + msOf (g.expiry - now))
    ++ beBytes 4 (msOf (now - e.lastHeard)) ++ oneByte (boolCode e.stale)

def claimStatus (q : ClaimReq) : List Byte :=
  oneByte q.port.val ++ oneByte (claimKindCode q.kind) ++ oneByte q.attempts

/-- R39: everything READ_CELL_VIEW gives. A STANDING is waiting where one is queued or wanted (DESIGN
CHOICE, log 39: R39 does not say whether a wanted one counts). Of the claim in flight, which R39 names and
does not lay out, the reply gives the port, kind and attempt count of its request, its standing and its
surge (DESIGN CHOICE, log 9). -/
def cellStatus (s : State) : List Byte :=
  s.view.flatMap (entryStatus s.hubTime)
    ++ twoBytes s.claims.granted ++ twoBytes s.required ++ flagByte s.claims.reserveHeld
    ++ twoBytes s.img.cellBudget ++ beBytes 3 (viewTotal s.hubTime s.view)
    ++ s.claims.queue.flatMap claimStatus
    ++ (match s.claims.inFlight with
        | some c => [1] ++ claimStatus c.req ++ twoBytes c.standing ++ twoBytes c.surge
        | none => [0, 0, 0, 0, 0, 0, 0, 0])
    ++ optBytes 2 (s.claims.backoff.map msOf) ++ optBytes 2 (s.claims.settle.map msOf)
    ++ flagByte (s.standingQueued || s.claims.standingWanted)

/-- R39: READ_CELL_VIEW. -/
def cmdReadCellView (s : State) : State × Answer := (s, done (cellStatus s))

end Sys2Proof.Machine
end

