-- ==== Sys2Proof/Machine/ScanCommands.lean ====
section
/-! DEFINITION. The effects of the scan commands (R125 to R128, R133, R136). -/

namespace Sys2Proof.Machine

/-- 12.2: 0 STAY, 1 RETURN, 2 BEST. -/
def endActionArg (b : Byte) : Option EndAction :=
  if b = 0 then some .stay else if b = 1 then some .goBack else if b = 2 then some .best else none

/-- R125: the header, where count, passes and end action are in range and store_frames is 0 or 1. -/
def headerArg (count passes act store : Byte) : Option ScanHeader :=
  match endActionArg act, yesNoArg store with
  | some e, some keep =>
    if 2 ≤ count.toNat ∧ count.toNat ≤ 16 ∧ 1 ≤ passes.toNat ∧ passes.toNat ≤ 4 then
      some ⟨count.toNat, passes.toNat, e, keep⟩
    else none
  | _, _ => none

/-- R125, once the command unit's checks have passed. -/
def beginLoad (p : Port) (h : Option ScanHeader) (s : State) : State × Answer :=
  match (s.port p).scan.loader with
  | .empty | .loaded | .done | .cancelled =>
    match h with
    | some h =>
      (s.modScan p fun x =>
        { x with loader := .loading, header := some h, expected := some 0, program := [] }, done [])
    | none => (s, refuse .badArgument)
  | .loading => (abortLoader p .begun s, refuse .loaderAborted)
  | .aborted => (s, refuse .loaderAborted)
  | .running => (s, refuse .scanActive)

/-- R125: SCAN_BEGIN. The header, its end action and store_frames with it, is checked only where the state
lets the command be taken (log 21). -/
def cmdScanBegin (b count passes endAction store : Byte) (s : State) : State × Answer :=
  onPort b s fun p => beginLoad p (headerArg count passes endAction store) s

/-- R126: a step's values brought into range. -/
def clampStep (q r : ParamSet) (index focus : Nat) (iris : Option Nat) (captures settle : Nat) :
    ScanStep :=
  { index := index
    focus := clampTo q.lo q.hi focus
    iris := iris.map (clampTo r.lo r.hi)
    captures := clampTo 1 8 captures
    settle := settle }

/-- R126: the step as stored, as the reply gives it: CLAMPED, the step, the new expected index. -/
def stepResults (clamped : Bool) (x : ScanStep) (expected : Nat) : List Byte :=
  flagByte clamped ++ oneByte x.index ++ twoBytes x.focus ++ optBytes 2 x.iris
    ++ oneByte x.captures ++ oneByte x.settle ++ oneByte expected

/-- R126: the expected step is stored. -/
def storeStep (p : Port) (h : ScanHeader) (x : ScanStep) (clamped : Bool) (s : State) :
    State × Answer :=
  let next := x.index + 1
  let last := decide (next = h.count)
  (s.modScan p fun y =>
    { y with
        program := y.program ++ [x]
        loader := if last then .loaded else .loading
        expected := if last then none else some next },
   done (stepResults clamped x next))

/-- R126: SCAN_STEP. -/
def cmdScanStep (b index : Byte) (focus : BitVec 16) (irisPresent : Byte) (iris : BitVec 16)
    (captures settle : Byte) (s : State) : State × Answer :=
  onPort b s fun p =>
    match yesNoArg irisPresent with
    | none => (s, refuse .badArgument)
    | some present =>
      let r := s.port p
      match r.scan.loader, r.scan.header, r.scan.expected with
      | .loading, some h, some e =>
        if index.toNat = e then
          let want := if present then some iris.toNat else none
          let x := clampStep r.focus.params r.iris.params e focus.toNat want captures.toNat
            settle.toNat
          let clamped := x.focus != focus.toNat || x.iris != want || x.captures != captures.toNat
          storeStep p h x clamped s
        else (abortLoader p (.outOfOrder e index.toNat) s, refuse .loaderAborted)
      | .aborted, _, _ => (s, refuse .loaderAborted)
      | _, _, _ => (s, refuse .notLoading)

/-- R128: the axis state that keeps a run from beginning; FOCUS is checked first. -/
def axisBar (r : PortRec) : Option Reason :=
  let bad (st : AxisState) : Bool := st != .rest && st != .holding
  if bad r.focus.state then some (.axis r.focus.state)
  else if bad r.iris.state then some (.axis r.iris.state)
  else none

/-- R128: the checks after those on the loader, in order. -/
def runRefusal (s : State) (p : Port) : Option Reason :=
  let r := s.port p
  if !r.link.state.passes then some (.link r.link.state)
  else if s.lens.guardActive then some .guardActive
  else axisBar r

/-- R128: SCAN_RUN. -/
def cmdScanRun (b : Byte) (s : State) : State × Answer :=
  onPort b s fun p =>
    match (s.port p).scan.loader with
    | .loading => (abortLoader p .run s, refuse .loaderAborted)
    | .aborted => (s, refuse .loaderAborted)
    | .running => (s, refuse .scanActive)
    | .empty | .cancelled => (s, refuse .noProgram)
    | .loaded | .done =>
      match runRefusal s p with
      | some r => (s, refuse r)
      | none => (beginRun p s, accepted [])

/-- R127: SCAN_ABORT_CLEAR. -/
def cmdScanAbortClear (b : Byte) (s : State) : State × Answer :=
  onPort b s fun p =>
    if (s.port p).scan.loader = .aborted then
      (s.modScan p fun x => { x with loader := .empty }, done [])
    else (s, done [])

/-- R133: SCAN_CANCEL. -/
def cmdScanCancel (b : Byte) (s : State) : State × Answer :=
  onPort b s fun p => (grantPiece (cancelScan p .command s), done [])

/-- R136: the result record, the loader state, the run phase, the capture counter, the settle time left,
and the program header where one is held. -/
def scanStatus (x : Scan) : List Byte :=
  scanRecordBytes x.result ++ oneByte (loaderCode x.loader) ++ optByte (x.phase.map phaseCode)
    ++ oneByte x.counter ++ optByte (x.settleLeft.map msOf)
    ++ (match x.header with
        | some h =>
          [1] ++ oneByte h.count ++ oneByte h.passes ++ oneByte (endActionCode h.endAction)
            ++ flagByte h.storeFrames
        | none => [0, 0, 0, 0, 0])

/-- R136: SCAN_RESULT. -/
def cmdScanResult (b : Byte) (s : State) : State × Answer :=
  onPort b s fun p => (s, done (scanStatus (s.port p).scan))

end Sys2Proof.Machine
end

