-- ==== Sys2Proof/Machine/Start.lean ====
section
/-! DEFINITION. The start of the hub (R184), at power-on and at RESTART alike. -/

namespace Sys2Proof.Machine

/-- R184: straps of 15 are taken as 14. -/
def stationOf (straps : BitVec 4) : Nat := min straps.toNat 14

/-- R180, R184: the start record with its marks. -/
def startRecordOf (cause : StartCause) (straps : BitVec 4) (nv : Nonvolatile) : StartRecord :=
  { cause := cause
    imageDefaulted := (nv.image.newest ImageCopy.generation).isNone
    imageTorn := nv.image.anyTorn
    station15 := straps == 15
    storeTorn := nv.locks.map Places.anyTorn
    generation := (nv.image.newest ImageCopy.generation).map ImageCopy.generation }

/-- What the hub breaks off as it starts: an attempt on the cell line (R159) and a send (R120). -/
def breakOff (s : State) : State :=
  let s := match s.line.tx with
    | .attempt => s.emit .lineReleased
    | _ => s
  match s.outLink.send with
  | some x => s.emit (.givenUp x.slot)
  | none => s

/-- R184, steps 1 to 5, from the stored copies and the pins as they stand. -/
def freshState (cause : StartCause) (s : State) : State :=
  let copy := s.nv.image.newest ImageCopy.generation
  let img := match copy with
    | some c => c.items
    | none => defaultImage
  let station := stationOf s.straps
  let now := match cause with
    | .powerOn => 0
    | .restart => s.hubTime
  { supplied := true
    straps := s.straps
    station := station
    hubTime := now
    freeCount := s.freeCount
    ports := ⟨startPort img (s.nv.locks.get 0).retained 0, startPort img (s.nv.locks.get 1).retained 1,
      startPort img (s.nv.locks.get 2).retained 2, startPort img (s.nv.locks.get 3).retained 3⟩
    claims := startClaims
    view := startView station now
    lens := startLens s.lens.guardActive
    triggers := startTriggers
    frames := startFrames
    outLink := startOutLink s.outLink.ready s.outLink.terminated
    locator := startLocator
    line := { startLineIf with queue := [⟨.standing none, false⟩] }
    commands := startCommands
    events := startEvents
    nv := s.nv
    store := startStore img (copy.map ImageCopy.generation)
    out := s.out
    pending := s.pending }

/-- R184: a start, in one event; STARTED is latched as its last step. -/
def startHub (cause : StartCause) (s : State) : State :=
  let s := cutStoreOp (breakOff s)
  let r := startRecordOf cause s.straps s.nv
  let t := freshState cause s
  let t := if t.outLink.terminated then t.emit .alignment else t
  t.latch .started none (.start r)

end Sys2Proof.Machine
end

