-- ==== Sys2Proof/Machine/SweepCommands.lean ====
section
/-! DEFINITION. The effects of the sweep commands (R144, R145, R157). -/

namespace Sys2Proof.Machine

/-- R144, R186: what a taken SWEEP_START gives: NEW or MERGED, the entry's status, and for DARK the power
state, which is absent for LIVE. -/
def sweepStarted (p : Port) (k : SweepKind) (merged : Bool) (s : State) : List Byte :=
  flagByte merged ++ sweepEntry ++ optByte (match k with
    | .dark => some (powerCode (s.port p).power.state)
    | .live => none)
where
  /-- The status of the port's entry. -/
  sweepEntry : List Byte :=
    optByte ((s.locator.work.find? fun e => e.port == p).map fun e => entryStatusCode e.status)

/-- R140, R144: the answer to a request. -/
def sweepReply (p : Port) (k : SweepKind) (m : State × SweepAnswer) : State × Answer :=
  match m.2 with
  | .refused r => (m.1, refuse r)
  | .merged => (m.1, accepted (sweepStarted p k true m.1))
  | .new => (m.1, accepted (sweepStarted p k false m.1))

/-- R144: SWEEP_START. -/
def cmdSweepStart (b kind powerDownOk : Byte) (s : State) : State × Answer :=
  onPort b s fun p =>
    match yesNoArg kind, yesNoArg powerDownOk with
    | some true, some ok =>
      let m := requestDark p .command ok s
      sweepReply p .dark (engineTake m.1, m.2)
    | some false, some _ => sweepReply p .live (requestLive p .command s)
    | _, _ => (s, refuse .badArgument)

/-- R145: SWEEP_CANCEL. -/
def cmdSweepCancel (b : Byte) (s : State) : State × Answer :=
  onPort b s fun p =>
    match s.locator.work.find? fun e => e.port == p with
    | none => (s, done [])
    | some e =>
      match e.kind with
      | .live => (grantPiece (engineTake (cancelLive p s)), done [])
      | .dark =>
        if e.status = .gathering then
          (writeResult p (plainResult .dark .cancelled 0 s.hubTime false) .dark
            (leaveGathering p s), done [])
        else (s, refuse .sweepRunning)

/-- R139: sources as a set, bit i for the source at position i (log 9). -/
def sourceMask (ss : List SweepSource) : Nat :=
  [SweepSource.command, .trip, .undercurrent, .training, .degraded, .liveResult].foldl
    (fun m x => m + if x ∈ ss then 2 ^ sweepSourceCode x else 0) 0

/-- R157: the port's entry. -/
def entryBytes : Option WorkEntry → List Byte
  | some e =>
    [1] ++ oneByte (sweepKindCode e.kind - 1) ++ oneByte (sourceMask e.sources)
      ++ oneByte (entryStatusCode e.status) ++ beBytes 4 e.arrival
  | none => [0, 0, 0, 0, 0, 0, 0, 0]

/-- R157: a session of the port: N, rejection run, deadline time left in ms. -/
def sessionBytes (p : Port) (s : State) : List Byte :=
  let mine (o : Option Session) : Option Session := o.filter fun se => se.port == p
  match mine s.locator.engine.session?, mine s.locator.setAside with
  | some se, _ | none, some se =>
    [1] ++ oneByte se.sweep.n ++ oneByte se.sweep.rejections ++ twoBytes (msOf se.deadline)
  | none, none => [0, 0, 0, 0, 0]

/-- R157, R149: the place of a port in the run of a formed batch, counted from 0 (DESIGN CHOICE, log 9). -/
def placeIn (p : Port) (ports : List Port) : Option Nat := ports.findIdx? fun q => q == p

/-- R155, R157: the place in its run of a port that the engine's batch holds: a port whose result is
written is held no longer. -/
def runPlace (p : Port) : Engine → Option Nat
  | .calibratingBatch ps => placeIn p ps
  | .darkRun before q after _ => (placeIn p (q :: after)).map (before.length + ·)
  | .idle | .calibratingSession _ | .waitingGap _ | .piece .. => none

/-- R157: the place in the run of a batch that holds the port, be the batch the engine's work or formed
and waiting. -/
def batchPlace (p : Port) (l : Locator) : Option Nat :=
  (runPlace p l.engine).or (l.formed.findSome? (placeIn p))

/-- R157: everything SWEEP_RESULT gives. -/
def sweepStatusBytes (p : Port) (s : State) : List Byte :=
  let l := s.locator
  sweepRecordBytes (s.port p).sweep ++ entryBytes (l.work.find? fun e => e.port == p)
    ++ oneByte (engineCode l.engine) ++ sessionBytes p s ++ optByte (batchPlace p l)
    ++ (match l.gathering with
        | some g => [1] ++ oneByte (portMask g.ports) ++ oneByte (msOf g.windowLeft)
        | none => [0, 0, 0])
    ++ l.formed.flatMap (fun ps => oneByte (portMask ps))
    ++ (match l.calibration with
        | some c => [1] ++ twoBytes c.l.toNat ++ twoBytes c.z.toNat
        | none => [0, 0, 0, 0, 0])
    ++ oneByte l.work.length

/-- R157: SWEEP_RESULT. -/
def cmdSweepResult (b : Byte) (s : State) : State × Answer :=
  onPort b s fun p => (s, done (sweepStatusBytes p s))

end Sys2Proof.Machine
end

