-- ==== Sys2Proof/Machine/CommandUnit.lean ====
section
/-! DEFINITION. The command unit: receiving, taking, replying, RESTART, and the places of the transmit queue (R166, R170 to R174). -/

namespace Sys2Proof.Machine

/-- R172: a command handed to its owning block. RESTART is answered DONE; its start follows (R174). -/
def perform (c : Cmd) (s : State) : State × Answer :=
  match c with
  | .portPowerOn p => cmdPortPowerOn p s
  | .portPowerOff p => cmdPortPowerOff p s
  | .setLockout p => cmdSetLockout p s
  | .clearLockout p k => cmdClearLockout p k s
  | .portStatus p => cmdPortStatus p s
  | .forgetStation st => cmdForgetStation st s
  | .readCellView => cmdReadCellView s
  | .lensMove a m t => cmdLensMove a m t s
  | .lensStop a => cmdLensStop a s
  | .lensSetParam a n v => cmdLensSetParam a n v s
  | .lensRecover a => cmdLensRecover a s
  | .freezeRelease => cmdFreezeRelease s
  | .axisStatus a => cmdAxisStatus a s
  | .scanBegin p n q e f => cmdScanBegin p n q e f s
  | .scanStep p i f ip ir c w => cmdScanStep p i f ip ir c w s
  | .scanRun p => cmdScanRun p s
  | .scanAbortClear p => cmdScanAbortClear p s
  | .scanCancel p => cmdScanCancel p s
  | .scanResult p => cmdScanResult p s
  | .frameRelease n => cmdFrameRelease n s
  | .frameResend n => cmdFrameResend n s
  | .frameHeader n => cmdFrameHeader n s
  | .storeStatus => cmdStoreStatus s
  | .readMissed r => cmdReadMissed r s
  | .sweepStart p k ok => cmdSweepStart p k ok s
  | .sweepCancel p => cmdSweepCancel p s
  | .sweepResult p => cmdSweepResult p s
  | .readEvents e => cmdReadEvents e s
  | .configWrite i x v => cmdConfigWrite i x v s
  | .configCommit => cmdConfigCommit s
  | .restart => (s, done [])
  | .malformed _ _ => (s, refuse .badArgument)

/-! ### The parts of a reply (R173) -/

/-- Bytes of results a part carries, and parts a reply has at most. -/
def partBytes : Nat := 18
def partsMax : Nat := 16

/-- R173: the results cut into at most `k` parts. -/
def cutResults : (k : Nat) → List Byte → List (List Byte)
  | 0, _ => []
  | k + 1, bs =>
    bs.take partBytes :: (if partBytes < bs.length then cutResults k (bs.drop partBytes) else [])

/-- R173: the parts numbered from `n`, the last one marked. -/
def numberParts (r : Reply) (truncated : Bool) : Nat → List (List Byte) → List Reply
  | _, [] => []
  | n, [bs] => [{ r with part := n, lastPart := true, truncated := truncated, results := bs }]
  | n, bs :: rest =>
    { r with part := n, lastPart := false, truncated := false, results := bs }
      :: numberParts r truncated (n + 1) rest

/-- R173: the reply to a command, from the answer and the summary flags of the moment. -/
def replyParts (h : CmdHead) (code : Byte) (a : Answer) (flags : BitVec 4) : List Reply :=
  let r : Reply :=
    { target := h.sender, tag := h.tag, code := code, status := a.status, reason := a.reason,
      flags := flags, part := 0, lastPart := true, truncated := false, results := [] }
  numberParts r (decide (partBytes * partsMax < a.results.length)) 0 (cutResults partsMax a.results)

/-! ### Offering a REPLY (R166) -/

/-- R166: a REPLY joins at a free place, or takes the place of the youngest REPORT that waits and is not
in an attempt; none where it must wait. -/
def offerReply (s : State) (r : Reply) : Option State :=
  if s.txFull then
    match dropYoungestReport s.line.queue with
    | some q => some ({ s with line := { s.line with queue := q } }.countReportLost.joinTx (.reply r))
    | none => none
  else some (s.joinTx (.reply r))

def State.modCommands (s : State) (f : CommandUnit → CommandUnit) : State :=
  { s with commands := f s.commands }

/-- R166: the REPLY that waits outside the queue takes the held place, if that is free. -/
def holdPart (s : State) : State :=
  match s.line.held with
  | none => { s with line := { s.line with held := some .part } }
  | some _ => s

/-- R173, R164: the parts offered in order; when the last has joined, or been discarded under MUTE, the
unit is READY, but for a unit that is RESTARTING. -/
def pumpParts : List Reply → State → State
  | [], s => s.modCommands fun c =>
      { c with parts := [], unit := if c.unit = .restarting then .restarting else .ready }
  | r :: rest, s =>
    if s.muted then pumpParts rest s.countReplyLost
    else
      match offerReply s r with
      | some t => pumpParts rest t
      | none => holdPart (s.modCommands fun c => { c with parts := r :: rest })

/-- R174: RESTART's reply; where it is discarded instead of sent, the start takes place at once. -/
def offerRestart (r : Reply) (s : State) : State :=
  let s := s.modCommands fun c => { c with unit := .restarting }
  if s.muted then startHub .restart s.countReplyLost
  else
    match offerReply s r with
    | some t => t
    | none =>
      if s.line.held.isSome then startHub .restart s.countReplyLost
      else holdPart (s.modCommands fun c => { c with parts := [r] })

/-! ### Taking commands (R172, R173) -/

/-- R172, R173: a command is taken: the owner acts, the reply is built from the state it leaves, and its
parts are offered. -/
def takeCommand (c : Received) (rest : List Received) (s : State) : State :=
  let s := s.modCommands fun u => { u with buffer := rest, taken := wrapInc 65536 u.taken }
  let m := perform c.cmd s
  let parts := replyParts c.head c.cmd.code m.2 (summaryFlags m.1)
  match c.cmd, parts with
  | .restart, r :: _ => offerRestart r m.1
  | _, _ => pumpParts parts (m.1.modCommands fun u => { u with unit := .replying })

/-- R172: the head of the receive buffer is taken while the unit is READY. -/
def takeNext (s : State) : State :=
  match s.commands.buffer with
  | c :: rest => if s.commands.unit = .ready then takeCommand c rest s else s
  | [] => s

def takeTimes : Nat → State → State
  | 0, s => s
  | n + 1, s => takeTimes n (takeNext s)

/-- R172: as many commands as the buffer holds are taken while the unit is READY. -/
def takeCommands (s : State) : State := takeTimes s.commands.buffer.length s

/-! ### Receiving (R170, R171) -/

/-- R169: places of the receive buffer. -/
def bufferFull (s : State) : Bool := Config.rxPlaces ≤ s.commands.buffer.length

/-- R171: a COMMAND that finds the buffer full is answered REFUSED, OVERFLOW. -/
def overflow (h : CmdHead) (code : Byte) (s : State) : State :=
  let s := s.modCommands fun c => { c with overflows := holdInc 65535 c.overflows }
  let r : Reply :=
    { target := h.sender, tag := h.tag, code := code, status := .refused, reason := .overflow,
      flags := summaryFlags s, part := 0, lastPart := true, truncated := false, results := [] }
  if s.muted then s.countReplyLost
  else
    match offerReply s r with
    | some t => t
    | none =>
      if s.line.held.isSome then s.countReplyLost
      else { s with line := { s.line with held := some (.overflow r) } }

/-- R170: a target other than the hub's own station and other than 15 is ignored. -/
def addressed (h : CmdHead) (s : State) : Bool := h.target.toNat == s.station || h.target == 15

/-- R170 to R172: a COMMAND at the command unit. -/
def receive (h : CmdHead) (c : Cmd) (s : State) : State :=
  if addressed h s then
    if bufferFull s then overflow h c.code s
    else takeCommands (s.modCommands fun u => { u with buffer := u.buffer ++ [⟨h, c⟩] })
  else s

/-! ### A freed place (R166) -/

/-- R166: a wanted STANDING joins; one that waits already stands for it (log 10). -/
def fillStanding (s : State) : State :=
  if s.claims.standingWanted && !s.muted then
    if s.standingQueued then { s with claims := { s.claims with standingWanted := false } }
    else if s.txFull then s
    else { s with claims := { s.claims with standingWanted := false } }.joinTx (.standing none)
  else s

/-- R166: the held REPLY joins, and the parts behind it are offered. -/
def fillHeld (s : State) : State :=
  if s.txFull then s
  else
    match s.line.held with
    | none => s
    | some (.overflow r) =>
      let s := { s with line := { s.line with held := none } }.joinTx (.reply r)
      if s.commands.parts.isEmpty then s else pumpParts s.commands.parts s
    | some .part =>
      let s := { s with line := { s.line with held := none } }
      match s.commands.parts with
      | r :: rest => pumpParts rest (s.joinTx (.reply r))
      | [] => s

/-- R166: a place has freed: a claim, a wanted STANDING and the held REPLY take it in that order; then
the command unit may take a command (R172). -/
def fillPlaces (s : State) : State := takeCommands (fillHeld (fillStanding (tryClaim s)))

end Sys2Proof.Machine
end

