-- ==== Sys2Proof/Machine/CommandRows.lean ====
section
/-! DEFINITION. The meanings of the 31 commands of the catalogue: each reaches the command unit as R170 to R172 give (log 1), and its effect is that of its owner. -/

namespace Sys2Proof.Machine

/-- R4 -/
def execPortPowerOn (h : CmdHead) (port : Byte) (s : State) : Host.Outcome State Fault Refusal :=
  s.event (receive h (.portPowerOn port))

/-- R6 -/
def execPortPowerOff (h : CmdHead) (port : Byte) (s : State) : Host.Outcome State Fault Refusal :=
  s.event (receive h (.portPowerOff port))

/-- R17 -/
def execSetLockout (h : CmdHead) (port : Byte) (s : State) : Host.Outcome State Fault Refusal :=
  s.event (receive h (.setLockout port))

/-- R18 -/
def execClearLockout (h : CmdHead) (port kind : Byte) (s : State) :
    Host.Outcome State Fault Refusal :=
  s.event (receive h (.clearLockout port kind))

/-- R21 -/
def execPortStatus (h : CmdHead) (port : Byte) (s : State) : Host.Outcome State Fault Refusal :=
  s.event (receive h (.portStatus port))

/-- R39 -/
def execForgetStation (h : CmdHead) (station : Byte) (s : State) :
    Host.Outcome State Fault Refusal :=
  s.event (receive h (.forgetStation station))

/-- R39 -/
def execReadCellView (h : CmdHead) (s : State) : Host.Outcome State Fault Refusal :=
  s.event (receive h .readCellView)

/-- R65, R66 -/
def execLensMove (h : CmdHead) (axis mode : Byte) (target : BitVec 24) (s : State) :
    Host.Outcome State Fault Refusal :=
  s.event (receive h (.lensMove axis mode target))

/-- R78 -/
def execLensStop (h : CmdHead) (axis : Byte) (s : State) : Host.Outcome State Fault Refusal :=
  s.event (receive h (.lensStop axis))

/-- R61 -/
def execLensSetParam (h : CmdHead) (axis param : Byte) (value : BitVec 16) (s : State) :
    Host.Outcome State Fault Refusal :=
  s.event (receive h (.lensSetParam axis param value))

/-- R80 -/
def execLensRecover (h : CmdHead) (axis : Byte) (s : State) : Host.Outcome State Fault Refusal :=
  s.event (receive h (.lensRecover axis))

/-- R83 -/
def execFreezeRelease (h : CmdHead) (s : State) : Host.Outcome State Fault Refusal :=
  s.event (receive h .freezeRelease)

/-- R84 -/
def execAxisStatus (h : CmdHead) (axis : Byte) (s : State) : Host.Outcome State Fault Refusal :=
  s.event (receive h (.axisStatus axis))

/-- R125 -/
def execScanBegin (h : CmdHead) (port count passes endAction storeFrames : Byte) (s : State) :
    Host.Outcome State Fault Refusal :=
  s.event (receive h (.scanBegin port count passes endAction storeFrames))

/-- R126 -/
def execScanStep (h : CmdHead) (port index : Byte) (focus : BitVec 16) (irisPresent : Byte)
    (iris : BitVec 16) (captures settle : Byte) (s : State) :
    Host.Outcome State Fault Refusal :=
  s.event (receive h (.scanStep port index focus irisPresent iris captures settle))

/-- R128 -/
def execScanRun (h : CmdHead) (port : Byte) (s : State) : Host.Outcome State Fault Refusal :=
  s.event (receive h (.scanRun port))

/-- R127 -/
def execScanAbortClear (h : CmdHead) (port : Byte) (s : State) : Host.Outcome State Fault Refusal :=
  s.event (receive h (.scanAbortClear port))

/-- R133 -/
def execScanCancel (h : CmdHead) (port : Byte) (s : State) : Host.Outcome State Fault Refusal :=
  s.event (receive h (.scanCancel port))

/-- R136 -/
def execScanResult (h : CmdHead) (port : Byte) (s : State) : Host.Outcome State Fault Refusal :=
  s.event (receive h (.scanResult port))

/-- R116 -/
def execFrameRelease (h : CmdHead) (slot : Byte) (s : State) : Host.Outcome State Fault Refusal :=
  s.event (receive h (.frameRelease slot))

/-- R117 -/
def execFrameResend (h : CmdHead) (slot : Byte) (s : State) : Host.Outcome State Fault Refusal :=
  s.event (receive h (.frameResend slot))

/-- R118 -/
def execFrameHeader (h : CmdHead) (slot : Byte) (s : State) : Host.Outcome State Fault Refusal :=
  s.event (receive h (.frameHeader slot))

/-- R119 -/
def execStoreStatus (h : CmdHead) (s : State) : Host.Outcome State Fault Refusal :=
  s.event (receive h .storeStatus)

/-- R102 -/
def execReadMissed (h : CmdHead) (record : BitVec 16) (s : State) :
    Host.Outcome State Fault Refusal :=
  s.event (receive h (.readMissed record))

/-- R144 -/
def execSweepStart (h : CmdHead) (port kind powerDownOk : Byte) (s : State) :
    Host.Outcome State Fault Refusal :=
  s.event (receive h (.sweepStart port kind powerDownOk))

/-- R145 -/
def execSweepCancel (h : CmdHead) (port : Byte) (s : State) : Host.Outcome State Fault Refusal :=
  s.event (receive h (.sweepCancel port))

/-- R157 -/
def execSweepResult (h : CmdHead) (port : Byte) (s : State) : Host.Outcome State Fault Refusal :=
  s.event (receive h (.sweepResult port))

/-- R178 -/
def execReadEvents (h : CmdHead) (release : BitVec 32) (s : State) :
    Host.Outcome State Fault Refusal :=
  s.event (receive h (.readEvents release))

/-- R182 -/
def execConfigWrite (h : CmdHead) (item index : Byte) (value : BitVec 32) (s : State) :
    Host.Outcome State Fault Refusal :=
  s.event (receive h (.configWrite item index value))

/-- R182 -/
def execConfigCommit (h : CmdHead) (s : State) : Host.Outcome State Fault Refusal :=
  s.event (receive h .configCommit)

/-- R174 -/
def execRestart (h : CmdHead) (s : State) : Host.Outcome State Fault Refusal :=
  s.event (receive h .restart)

end Sys2Proof.Machine
end

