-- ==== Sys2Proof/Machine/LensRows.lean ====
section
/-! DEFINITION. The meanings of the lens updates, the hold expiry and the GUARD edges (R72 to R78, R82, R83). -/

namespace Sys2Proof.Machine

/-- R72, R77: an update of a MOVING axis. A landing of source SCAN is reported to the sequencer. -/
def moveUpdate (a : AxisId) (s : State) : State :=
  let m := (s.axis a).moveStep
  let s := sendSetpoint a (s.setAxis a m.1)
  if m.2 then
    let s := land a false s
    if m.1.source = .scan then scanLanded a s else s
  else s

/-- R78, R83: an update of a STOPPING axis; the stop is complete when V is 0. -/
def stopUpdate (a : AxisId) (s : State) : State :=
  let x := s.axis a
  if x.stopKind = some .guard then
    let y := x.stopStep s.img.dfreeze
    let s := sendSetpoint a (s.setAxis a y)
    if y.v = 0 then reevaluate (freezeAxis a s) else s
  else
    let y := x.stopStep (x.params.decel x.v)
    let s := sendSetpoint a (s.setAxis a y)
    if y.v = 0 then land a true (s.setAxis a { y with t := y.p }) else s

/-- R72: LENS_UPDATE of one axis. -/
def execLensUpdate (a : AxisId) (s : State) : Host.Outcome State Fault Refusal :=
  s.event fun s =>
    match (s.axis a).state with
    | .moving => grantPiece (moveUpdate a s)
    | .stopping => grantPiece (stopUpdate a s)
    | .offline | .rest | .waitPower | .waitLink | .waitExposure | .holding | .stoppedEnd | .frozen
    | .lost => s

/-- R77: HOLD_EXPIRY. -/
def execHoldExpiry (a : AxisId) (s : State) : Host.Outcome State Fault Refusal :=
  s.event fun s =>
    if (s.axis a).state = .holding ∧ (s.axis a).hold.isSome then
      reevaluate (s.setAxis a (s.axis a).enterRest)
    else s

/-- R133: GUARD cancels every running scan of the hub. -/
def freezeScan (s : State) (p : Port) : State := cancelScan p .frozen s

/-- R82, R133: GUARD_ACTIVATED: the lens controller acts first, axis by axis, then the scan sequencers
(log 12); the wait list is re-evaluated once. -/
def execGuardActivated (s : State) : Host.Outcome State Fault Refusal :=
  s.event fun s =>
    let s := { s with lens := { s.lens with guardActive := true } }
    grantPiece (reevaluate (allPorts.foldl freezeScan (allAxes.foldl guardAxis s)))

/-- R83: GUARD_RELEASED: no axis changes state. -/
def execGuardReleased (s : State) : Host.Outcome State Fault Refusal :=
  s.event fun s => { s with lens := { s.lens with guardActive := false } }

end Sys2Proof.Machine
end

