-- ==== Sys2Proof/Machine/LineRows.lean ====
section
/-! DEFINITION. The meanings of the cell line's events: attempts and their ends, MUTE, and the notices received (R86, R89, R160 to R171). -/

namespace Sys2Proof.Machine

def State.modLine (s : State) (f : LineIf → LineIf) : State := { s with line := f s.line }

/-! ### Attempts (R160 to R163) -/

/-- R30, R89, R160: the contents of a notice as its attempt begins. -/
def fixContents (s : State) : TxBody → TxBody
  | .trigger input line _ =>
    let e := s.triggers.lines.getD line startLine
    .trigger input line (some (if e.valid then wrapInc 256 e.last else 0))
  | .standing _ => .standing (some s.claims.granted)
  | .claim => .claim
  | .reply r => .reply r
  | .report r => .report r

/-- R89: the pending mark of the input whose TRIGGER this is. -/
def markTrigger (b : TxBody) (w : SensePending) (s : State) : State :=
  match b with
  | .trigger input _ _ => s.sensePending input w
  | _ => s

/-- R159: the line is free: 11 released bit times have passed. -/
def LineIf.free (l : LineIf) : Bool := l.idle == Config.idleBits

/-- R160: the head of the queue goes on the line; the start bit that the hub drives makes the idle count
0. -/
def beginAttempt (it : TxItem) (rest : List TxItem) (s : State) : State :=
  let b := fixContents s it.body
  let s := s.modLine fun l =>
    { l with tx := .attempt, idle := 0, receiving := false, queue := ⟨b, true⟩ :: rest }
  (markTrigger b .sending s).emit (.notice (wireNotice s b))

/-- R160: ATTEMPT_BEGIN, in READY with the queue not empty and an idle count of 11. -/
def execAttemptBegin (s : State) : Host.Outcome State Fault Refusal :=
  s.event fun s =>
    match s.line.tx, s.line.queue with
    | .ready, it :: rest => if s.line.free then beginAttempt it rest s else s
    | _, _ => s

/-- The notice in the attempt (R165). -/
def State.sendingItem (s : State) : Option TxItem := s.line.queue.find? fun it => it.sending

/-- R30: whether another STANDING waits beside the one whose attempt is abandoned. -/
def spareStanding (s : State) (it : TxItem) : Bool :=
  match it.body with
  | .standing _ => s.standingQueued
  | _ => false

/-- R161, R163, R89: an attempt is abandoned: the notice stays in the queue and waits again. The idle count
starts from 0 (log 40). An abandoned STANDING beside a newer one that waits is dropped, since at most one
waits (R30, log 10). -/
def abandonAttempt (s : State) : State :=
  match s.sendingItem with
  | some it =>
    let spare := spareStanding s it
    let queue := if spare then s.line.queue.filter fun x => !x.sending
      else s.line.queue.map fun x => { x with sending := false }
    let s := s.modLine fun l => { l with tx := .ready, idle := 0, queue := queue }
    let s := (markTrigger it.body .queued s).emit .lineReleased
    if spare then fillPlaces s else s
  | none => s.modLine fun l => { l with tx := .ready, idle := 0 }

/-- R161: ARBITRATION_LOST: the hub becomes a receiver of the winning notice. -/
def execArbitrationLost (s : State) : Host.Outcome State Fault Refusal :=
  s.event fun s =>
    match s.line.tx with
    | .attempt =>
      let s := s.modCounters fun c => { c with arbLosses := holdInc 65535 c.arbLosses }
      abandonAttempt (s.modLine fun l => { l with receiving := true })
    | _ => s

/-! ### MUTE (R164) -/

/-- R163: failures in a row that bring MUTE. -/
def failuresToMute : Nat := 32

/-- R41, R89, R164: a notice of the emptied queue goes to its owner. -/
def withdrawNotice (s : State) (it : TxItem) : State :=
  match it.body with
  | .trigger input _ _ => dropEdge input .mute (s.sensePending input .absent)
  | .claim => takeBackClaim s
  | .standing _ => { s with claims := { s.claims with standingWanted := true } }
  | .reply _ => s.countReplyLost
  | .report _ => s.countReportLost

/-- R164: replies that waited outside the queue: the parts, and a held OVERFLOW REPLY. -/
def outsideReplies (s : State) : Nat :=
  s.commands.parts.length + (match s.line.held with | some (.overflow _) => 1 | _ => 0)

def countReplies : Nat → State → State
  | 0, s => s
  | n + 1, s => countReplies n s.countReplyLost

/-- R164, R173, R174: MUTE begins; the queue goes to its owners in its order (log 12). A RESTART whose reply
is lost here starts the hub; otherwise the command unit is READY and takes what waits. -/
def beginMute (s : State) : State :=
  let queue := s.line.queue
  let n := outsideReplies s
  let restarting := decide (s.commands.unit = .restarting)
  let s := s.modLine fun l => { l with tx := .mute Config.muteUs, queue := [], held := none }
  let s := s.modCounters fun c => { c with mutes := holdInc 65535 c.mutes }
  let s := countReplies n (queue.foldl withdrawNotice s)
  if restarting then startHub .restart s
  else takeCommands (s.modCommands fun c => { c with parts := [], unit := .ready })

/-- R163: TRANSMIT_FAILURE. -/
def execTransmitFailure (s : State) : Host.Outcome State Fault Refusal :=
  s.event fun s =>
    match s.line.tx with
    | .attempt =>
      let s := s.modCounters fun c => { c with txFailures := holdInc 65535 c.txFailures }
      let run := s.line.failureRun + 1
      let s := abandonAttempt (s.modLine fun l => { l with failureRun := run })
      if failuresToMute ≤ run then beginMute s else s
    | _ => s

/-- R41, R164: MUTE_END. -/
def execMuteEnd (s : State) : Host.Outcome State Fault Refusal :=
  s.event fun s =>
    match s.line.tx with
    | .mute _ =>
      let s := s.modLine fun l => { l with tx := .ready, failureRun := 0 }
      let s := { s with claims := { s.claims with
        standingWanted := false, refreshLeft := Config.refreshUs } }
      tryClaim s.offerStanding
    | _ => s

/-! ### The end of an attempt (R162) -/

/-- R174: the reply that RESTART waits for. -/
def isRestartReply (r : Reply) : Bool := r.code == Cmd.code .restart && r.status == .done

/-- R27 to R30, R89, R162, R174: what the owner of a notice does as its attempt ends. -/
def ownerActs (b : TxBody) (flaw hold : Bool) (s : State) : State :=
  match b with
  | .trigger input line sequence =>
    takeTrigger line (sequence.getD 0) (s.sensePending input .absent)
  | .claim => settleClaim flaw hold s
  | .standing value => s.announce (value.getD 0) none
  | .reply r =>
    if s.commands.unit = .restarting ∧ isRestartReply r then startHub .restart s else s
  | .report _ => s

/-- R162: ATTEMPT_END: the notice leaves the queue, its owner acts on the combined trailer, and the
freed place is given (R166). HEARD has no effect on any owner. -/
def execAttemptEnd (_heard flaw hold : Bool) (s : State) : Host.Outcome State Fault Refusal :=
  s.event fun s =>
    match s.line.tx, s.sendingItem with
    | .attempt, some it =>
      let s := s.modLine fun l =>
        { l with tx := .ready, idle := 0, receiving := false, failureRun := 0,
                 queue := l.queue.filter fun x => !x.sending }
      grantPiece (fillPlaces (ownerActs it.body flaw hold s))
    | _, _ => s

/-! ### Receiving (R167, R168) -/

/-- R159, R161: the hub receives a notice that began on a free line, and one that it has followed from its
start bit; no other. -/
def LineIf.follows (l : LineIf) : Bool := l.receiving || l.free

/-- R167: a notice with a receive error is counted and handed to no block; `idle` is the count of released
bit times that it leaves (R159). -/
def receiveFault (idle : Nat) (s : State) : State :=
  (s.modLine fun l => { l with idle := idle, receiving := false }).modCounters fun c =>
    { c with rxErrors := holdInc 65535 c.rxErrors }

/-- R167: a notice with a receive error that reaches its trailer: the hub drives FLAW and not HEARD. -/
def flawNotice (s : State) : State := (receiveFault 0 s).emit (.trailer false true false)

/-- R159, R163: bits on the line while the hub follows no notice: a driven bit in the end delimiter or in the
idle bit times after it, or a notice that the hub does not receive. They restart the idle count, which is
then the released bit times since the last of them, and change nothing that has ended. In an attempt the
bits are the hub's own (log 40). -/
def unfollowed (idle : Nat) (s : State) : State :=
  s.modLine fun l => { l with idle := if l.tx = .attempt then l.idle else idle }

/-- R159, R161, R163: the end of a notice on the line, for a hub that receives it; for another, bits that
restart its idle count, of which `idle` released bit times have passed since the last driven one. -/
def State.lineEvent (s : State) (idle : Nat) (f : State → State) : Host.Outcome State Fault Refusal :=
  s.event fun s => if s.line.follows then f s else unfollowed idle s

/-- R167: a notice that arrives whole. Sender field 15, or a length field above 24, is a receive error
whatever the row says of the notice. -/
def State.receives (s : State) (sender : BitVec 4) (bytes : Nat) (f : State → State) :
    Host.Outcome State Fault Refusal :=
  s.lineEvent 0 fun s => if sender = 15 ∨ Config.payloadBytes < bytes then flawNotice s else f s

/-- R168, R38: a notice received without error: the hub drives HEARD, and HOLD where it objects (R35), its
sender is heard, and a sender of the hub's own number is counted. The own entry is not written (R34). -/
def hearNotice (sender : BitVec 4) (hold : Bool) (s : State) : State :=
  let s := s.modLine fun l => { l with idle := 0, receiving := false }
  let s := s.emit (.trailer true false hold)
  if sender.toNat = s.station then
    s.modCounters fun c => { c with sameNumber := holdInc 65535 c.sameNumber }
  else { s with view := hear sender.toNat s.hubTime s.view }

/-- R86, R185: TRIGGER_RECEIVED; the target is not examined, and the line is the low four bits. -/
def execTriggerReceived (sender _target : BitVec 4) (lineByte sequence : Byte) (s : State) :
    Host.Outcome State Fault Refusal :=
  s.receives sender 2 fun s =>
    takeTrigger (lineByte.toNat % 16) sequence.toNat (hearNotice sender false s)

/-- R35: whether the hub objects to a peer's CLAIM: surges count while they are unexpired. -/
def objects (s : State) (sender standing surge : Nat) : Bool :=
  sender != s.station &&
    decide (s.img.cellBudget <
      viewTotal s.hubTime (s.view.filter fun e => e.station != sender) + standing + surge)

/-- R36: a peer's CLAIM is recorded. -/
def recordClaim (sender standing surge lifetime : Nat) (s : State) : State :=
  let e : CellEntry := ⟨sender, standing, surgeOf s.hubTime surge lifetime, s.hubTime, false⟩
  { s with view := putEntry e s.view }

/-- R35, R36: CLAIM_RECEIVED: judged, and recorded if the combined trailer, the hub's own HOLD with the
slots its peers drove, shows neither HOLD nor FLAW. -/
def execClaimReceived (sender _target : BitVec 4) (standing surge lifetime : BitVec 16)
    (peerFlaw peerHold : Bool) (s : State) : Host.Outcome State Fault Refusal :=
  s.receives sender 6 fun s =>
    let hold := objects s sender.toNat standing.toNat surge.toNat
    let own := decide (sender.toNat = s.station)
    let s := hearNotice sender hold s
    if own || hold || peerFlaw || peerHold then s
    else recordClaim sender.toNat standing.toNat surge.toNat lifetime.toNat s

/-- R37: a peer's STANDING is recorded, and CELL_OVER latched where the view total exceeds the
budget. -/
def recordStanding (sender standing : Nat) (s : State) : State :=
  let s := { s with view := putEntry ⟨sender, standing, none, s.hubTime, false⟩ s.view }
  let total := viewTotal s.hubTime s.view
  if s.img.cellBudget < total then s.latch .cellOver none (.total total) else s

/-- R37: STANDING_RECEIVED. -/
def execStandingReceived (sender _target : BitVec 4) (standing : BitVec 16) (s : State) :
    Host.Outcome State Fault Refusal :=
  s.receives sender 2 fun s =>
    let own := decide (sender.toNat = s.station)
    let s := hearNotice sender false s
    if own then s else recordStanding sender.toNat standing.toNat s

/-- R170, R172: a COMMAND's payload: code, tag, arguments. A payload too short for a code or a tag is
answered with free ones (log 8). -/
def readCommand (sender target : BitVec 4) (payload : List Byte) (s : State) :
    CmdHead × Cmd × State :=
  match payload with
  | code :: tag :: args => (⟨sender, target, tag⟩, Cmd.parse code args, s)
  | [code] =>
    (⟨sender, target, Config.freeByte s.freeCount⟩, .malformed code [],
      { s with freeCount := s.freeCount + 1 })
  | [] =>
    (⟨sender, target, Config.freeByte s.freeCount⟩,
      .malformed (Config.freeByte (s.freeCount + 1)) [],
      { s with freeCount := s.freeCount + 2 })

/-- R168, R170: COMMAND_RECEIVED. R168 has the sender heard in the event that hands the COMMAND on, and gives
the two no order: that the sender is heard first, and the command, where it is taken at once, finds it heard,
is the model's (DESIGN CHOICE, log 55). -/
def execCommandReceived (sender target : BitVec 4) (payload : List Byte) (s : State) :
    Host.Outcome State Fault Refusal :=
  s.receives sender payload.length fun s =>
    let m := readCommand sender target payload (hearNotice sender false s)
    receive m.1 m.2.1 m.2.2

/-- R168: OTHER_NOTICE_RECEIVED: a REPLY or a REPORT is heard and discarded; kinds 6 and 7 are
counted. -/
def execOtherNoticeReceived (sender _target : BitVec 4) (kind : BitVec 3) (s : State) :
    Host.Outcome State Fault Refusal :=
  s.receives sender 0 fun s =>
    let s := hearNotice sender false s
    if 6 ≤ kind.toNat then
      s.modCounters fun c => { c with undefinedKinds := holdInc 65535 c.undefinedKinds }
    else s

/-- R159, R167: the released bit times seen at a break: none at a start bit or at a driven sixth bit, 11 at a
silence, and 6 at a released sixth bit. -/
def breakIdle : LineBreak → Nat
  | .startBit => 0
  | .silence => 11
  | .lineCode true => 6
  | .lineCode false => 0

/-- R160, R167: a notice broken off by a start bit is followed by the notice which that bit begins. -/
def breakReceiving : LineBreak → Bool
  | .startBit => true
  | .silence | .lineCode _ => false

/-- R159: the released bit times that the row of a receive error leaves after its last driven bit. -/
def errorIdle : RxError → Nat
  | .brokeOff how => breakIdle how
  | .lengthField | .senderField | .payloadLength | .crc => 0

/-- R163, R167: RECEIVE_ERROR: FLAW is driven, and HEARD is not, where the notice reaches its trailer; a
notice that broke off has none. One with another error that does not reach its trailer leaves an idle count
of 0 and no notice that the hub follows (DESIGN CHOICE, log 40). Where the hub follows no notice, the row is
that of a driven bit in the end delimiter or after it: the idle count starts again, and nothing else is
done. -/
def execReceiveError (error : RxError) (reachesTrailer : Bool) (s : State) :
    Host.Outcome State Fault Refusal :=
  s.lineEvent (errorIdle error) fun s =>
    match error with
    | .brokeOff how =>
      (receiveFault (breakIdle how) s).modLine fun l => { l with receiving := breakReceiving how }
    | .lengthField | .senderField | .payloadLength | .crc =>
      if reachesTrailer then flawNotice s else receiveFault 0 s

end Sys2Proof.Machine
end

