-- ==== Sys2Proof/Machine/LinkRows.lean ====
section
/-! DEFINITION. The meanings of the port link's events and of the image lane's items (R43 to R52, R56, R79 to R81, R95, R107, R122). -/

namespace Sys2Proof.Machine

/-- R45: the head's lock brings a TRAINING link UP, with its first error window. -/
def linkUp (p : Port) (s : State) : State :=
  let s := if (s.port p).link.time = .free then s.emit (.pattern p false) else s
  let s := s.modLink p fun l =>
    { l with state := .up, trainUsed := 0, windowCount := 0, windowLeft := some Config.windowUs,
             highRun := 0, cleanRun := 0 }
  s.latch .linkUp (some p) .trained

/-- R44, R45, R47: LOCK_REPORT. A report of locked in TRAINING finds the receiver locked (log 15); a
report of not locked cannot be seen while a piece holds the cable (R58). -/
def execLockReport (p : Port) (locked : Bool) (s : State) : Host.Outcome State Fault Refusal :=
  s.event fun s =>
    match (s.port p).link.state with
    | .training => if locked then grantPiece (linkUp p s) else s
    | .up | .degraded =>
      if laneOpen s p then
        if locked then itemArrives p s else grantPiece (loseLock p .head s)
      else s
    | .dark | .down => s

/-- R44, R47: STREAM_LOST; not watched for while a piece holds the cable (R55). -/
def execStreamLost (p : Port) (s : State) : Host.Outcome State Fault Refusal :=
  s.event fun s => if laneOpen s p then grantPiece (loseLock p .stream s) else s

/-- R44: RESUME_CHECK_EXPIRY: the head has not resumed its stream within 1 ms of a QUIET release. -/
def execResumeCheckExpiry (p : Port) (s : State) : Host.Outcome State Fault Refusal :=
  s.event fun s =>
    if laneOpen s p ∧ (s.port p).link.resumeLeft.isSome then grantPiece (loseLock p .stream s)
    else s

/-- R46: training has timed out: DOWN, and a LIVE request whose sweep the link awaits. -/
def timeOut (p : Port) (s : State) : State :=
  let s := s.modLink p fun l =>
    { l with state := .down, trainUsed := Config.trainingUs, timeouts := holdInc 255 l.timeouts }
  let s := s.emit (.pattern p false)
  let s := s.latch .trainingTimeout (some p) (.timeouts (s.port p).link.timeouts)
  let s := (requestLive p .training s).1
  s.modLink p fun l => { l with awaited := (s.entry? p .live).isSome }

/-- R45, R46: TRAINING_TIMEOUT; training time is frozen while a piece holds the cable. -/
def execTrainingTimeout (p : Port) (s : State) : Host.Outcome State Fault Refusal :=
  s.event fun s =>
    if (s.port p).link.state = .training ∧ (s.port p).link.time = .free then timeOut p s else s

/-- R50: a window judged in UP. -/
def judgeUp (p : Port) (count : Nat) (s : State) : State :=
  let run := if s.img.errHigh < count then (s.port p).link.highRun + 1 else 0
  if 3 ≤ run then
    let s := s.modLink p fun l => { l with state := .degraded, highRun := 0, cleanRun := 0 }
    (requestLive p .degraded (s.latch .linkDegraded (some p) (.window count))).1
  else s.modLink p fun l => { l with highRun := run }

/-- R51: a window judged in DEGRADED. -/
def judgeDegraded (p : Port) (count : Nat) (s : State) : State :=
  let run := if count ≤ s.img.errLow then (s.port p).link.cleanRun + 1 else 0
  if 10 ≤ run then
    let s := s.modLink p fun l => { l with state := .up, highRun := 0, cleanRun := 0 }
    s.latch .linkUp (some p) .recovered
  else s.modLink p fun l => { l with cleanRun := run }

/-- R49: ERROR_WINDOW_END: the window is judged and a new one starts. -/
def execErrorWindowEnd (p : Port) (s : State) : Host.Outcome State Fault Refusal :=
  s.event fun s =>
    let l := (s.port p).link
    let next := s.modLink p fun l =>
      { l with lastWindow := some l.windowCount, windowCount := 0,
               windowLeft := some Config.windowUs }
    match l.state with
    | .up => judgeUp p l.windowCount next
    | .degraded => judgeDegraded p l.windowCount next
    | .dark | .training | .down => s

/-- R49, R52: CODE_ERROR; not checked while a piece holds the cable. -/
def execCodeError (p : Port) (s : State) : Host.Outcome State Fault Refusal :=
  s.event fun s =>
    if laneOpen s p then
      let s := s.modLink p fun l => { l with windowCount := holdInc 65535 l.windowCount }
      if (s.port p).link.gate = .opened then markErrors p s else s
    else s

/-! ### Frames (R52, R95, R105) -/

/-- R95, R105, R122: a frame start handed to the trigger unit, the metric unit and the frame store. -/
def openFrame (p : Port) (f : PixelFormat) (w h : Nat) (s : State) : State :=
  let e := (s.port p).exposure
  let s := s.modLink p fun l => { l with gate := .opened }
  let s := s.modExposure p fun e => { e with state := .receiving, timer := none }
  let scan := match e.origin with
    | some (.scan _) => true
    | _ => false
  let s := s.modMetric p fun m => m.frameStart (s.img.roi p) f w h scan
  let s := match e.origin with
    | some o => if o.kept then storeFrame p e o f w h s else s
    | none => s
  releaseWait .waitExposure p s

/-- R52: a frame the hub did not ask for. -/
def refuseFrame (p : Port) (s : State) : State :=
  s.modLink p fun l => { l with gate := .discarding, unasked := holdInc 65535 l.unasked }

/-- R52: FRAME_START. A frame start while a frame is open ends that one cut short and is itself
discarded (log 29). -/
def execFrameStart (p : Port) (format : PixelFormat) (width height : BitVec 16) (s : State) :
    Host.Outcome State Fault Refusal :=
  s.event fun s =>
    if laneOpen s p then
      let s := itemArrives p s
      if (s.port p).link.gate = .opened then grantPiece (refuseFrame p (cutFrame p s))
      else if (s.port p).exposure.state = .exposing then
        openFrame p format width.toNat height.toNat s
      else refuseFrame p s
    else s

/-- R107: pixel data of an open frame, at the frame store. -/
def storePixels (p : Port) (vs : List (BitVec 12)) (s : State) : State :=
  match s.fillingSlot p with
  | some (n, r) => s.setSlot n ⟨.filling, some (r.fill vs)⟩
  | none => s

/-- R52, R107, R122: PIXEL_DATA. -/
def execPixelData (p : Port) (row column : BitVec 16) (pixels : List (BitVec 12)) (s : State) :
    Host.Outcome State Fault Refusal :=
  s.event fun s =>
    if laneOpen s p then
      let s := itemArrives p s
      if (s.port p).link.gate = .opened then
        (storePixels p pixels s).modMetric p fun m => m.rowData row.toNat column.toNat pixels
      else s
    else s

/-- R52, R97: FRAME_END. No rule uses the rows sent. A piece is granted last (log 12). -/
def execFrameEnd (p : Port) (_rowsSent : BitVec 16) (s : State) :
    Host.Outcome State Fault Refusal :=
  s.event fun s =>
    if laneOpen s p then
      let s := itemArrives p s
      match (s.port p).link.gate with
      | .opened => grantPiece (endFrame p false s)
      | .discarding => s.modLink p fun l => { l with gate := .none }
      | .none => s
    else s

/-! ### Position reports (R64, R79 to R81) -/

/-- R64: the first report after the link has come up. -/
def AxisRec.online (x : AxisRec) (h : HeadReport) : AxisRec :=
  ({ x.loadStaged with last := some h }.placed true).enterRest

/-- R80, R133: an axis becomes LOST, the wait list is re-evaluated, and a running scan of its port is then
cancelled (log 12). -/
def axisLost (a : AxisId) (following : Bool) (s : State) : State :=
  cancelScan a.port .lost (loseAxis a following s)

/-- R81: the end flag in the direction of motion, if active. -/
def stoppingEnd (x : AxisRec) (h : HeadReport) : Option EndSide :=
  if x.state.poweredMoving ∧ 0 < x.v then
    match x.dir with
    | .near => if h.near then some .near else none
    | .far => if h.far then some .far else none
  else none

/-- R81: whether the flag of the active end is clear. -/
def endCleared (x : AxisRec) (h : HeadReport) : Bool :=
  match x.state, x.activeEnd with
  | .stoppedEnd, some .near => !h.near
  | .stoppedEnd, some .far => !h.far
  | _, _ => false

/-- R81: the end flags of a valid report. -/
def applyEnds (a : AxisId) (h : HeadReport) (s : State) : State :=
  let x := s.axis a
  match stoppingEnd x h with
  | some side => cancelScan a.port .endStop (endStop a side s)
  | none => if endCleared x h then reevaluate (s.setAxis a x.enterRest) else s

/-- The distance of two positions in counts. -/
def gapOf (m n : Nat) : Nat := max m n - min m n

/-- R79, step 1: the variance check. -/
def credible (x : AxisRec) (h : HeadReport) : Bool :=
  match x.last with
  | some l => gapOf h.pos.toNat l.pos.toNat ≤ x.params.varLimit
  | none => true

/-- R79: the checked report of an axis. -/
def checkReport (a : AxisId) (h : HeadReport) (s : State) : State :=
  let x := s.axis a
  if credible x h then
    let s := s.setAxis a { x with bad := 0, last := some h }
    if x.params.followTol < gapOf h.pos.toNat (countsOf x.p) then
      let s := s.modAxis a fun y => { y with follow := y.follow + 1 }
      if 5 ≤ x.follow + 1 then axisLost a true s else applyEnds a h s
    else applyEnds a h (s.modAxis a fun y => { y with follow := 0 })
  else
    let s := s.setAxis a { x with bad := x.bad + 1 }
    if 3 ≤ x.bad + 1 then axisLost a false s else s

/-- R64, R79: one axis's part of a position report, by its state. -/
def axisReport (a : AxisId) (h : HeadReport) (s : State) : State :=
  let x := s.axis a
  match x.state with
  | .offline => s.setAxis a (x.online h)
  | .lost => s.setAxis a { x with last := some h }
  | .frozen => s.setAxis a { x with last := some h, sinceFreeze := true }
  | .rest | .waitPower | .waitLink | .waitExposure | .moving | .stopping | .holding
  | .stoppedEnd => checkReport a h s

/-- R79: POSITION_REPORT; the FOCUS part is taken before the IRIS part (log 12). -/
def execPositionReport (p : Port) (focus iris : HeadReport) (s : State) :
    Host.Outcome State Fault Refusal :=
  s.event fun s =>
    if laneOpen s p then
      grantPiece (axisReport ⟨p, .iris⟩ iris (axisReport ⟨p, .focus⟩ focus (itemArrives p s)))
    else s

/-! ### The stop of an abandoned piece -/

/-- R56, R57: ABANDON_STOP. -/
def execAbandonStop (p : Port) (s : State) : Host.Outcome State Fault Refusal :=
  s.event fun s =>
    if (s.port p).link.time = .abandoning then
      let s := pieceEnd p s
      match s.locator.engine with
      | .piece se _ _ => grantPiece (if se.port = p then afterPiece se s else s)
      | _ => grantPiece s
    else s

end Sys2Proof.Machine
end

