-- ==== Sys2Proof/Machine/OutLinkRows.lean ====
section
/-! DEFINITION. The meanings of the frame out link's events (R111 to R115) and of a store operation's end (R183). -/

namespace Sys2Proof.Machine

/-- R111: TERMINATION_PRESENT on both lanes. -/
def execTerminationPresent (s : State) : Host.Outcome State Fault Refusal :=
  s.event fun s =>
    let s := { s with outLink := { s.outLink with terminated := true } }
    if s.outLink.state = .absent then startAligning s else s

/-- R111, R115: TERMINATION_LOST on either lane. -/
def execTerminationLost (s : State) : Host.Outcome State Fault Refusal :=
  s.event fun s =>
    let s := { s with outLink := { s.outLink with
      terminated := false, state := .absent, alignLeft := none } }
    match s.outLink.send with
    | some x => giveUp x s
    | none => s

/-- R111, R112: ALIGN_END. -/
def execAlignEnd (s : State) : Host.Outcome State Fault Refusal :=
  s.event fun s =>
    if s.outLink.state = .aligning then
      trySend { s with outLink := { s.outLink with state := .up, alignLeft := none } }
    else s

/-- R112, R113: READY_HIGH: a paused send resumes from the byte after the last one sent, or a send
begins. -/
def execReadyHigh (s : State) : Host.Outcome State Fault Refusal :=
  s.event fun s =>
    let s := { s with outLink := { s.outLink with ready := true } }
    match s.outLink.send with
    | some x =>
      if x.paused then
        { s with outLink := { s.outLink with send := some { x with paused := false } } }.emit
          (.resumed x.slot (x.bytesSent + 1))
      else s
    | none => trySend s

/-- R113: READY_LOW: the block under way is finished first (SEND_PAUSED). -/
def execReadyLow (s : State) : Host.Outcome State Fault Refusal :=
  s.event fun s => { s with outLink := { s.outLink with ready := false } }

/-- R113: SEND_PAUSED: the block under way is finished with READY low; the row gives the bytes of pixel
data sent by then (log 20). With READY high again before the block is finished there is no pause (DESIGN
CHOICE, log 20). -/
def execSendPaused (bytesSent : Nat) (s : State) : Host.Outcome State Fault Refusal :=
  s.event fun s =>
    match s.outLink.send with
    | some x =>
      if s.outLink.ready then s
      else
        let y : Send :=
          { x with part := if bytesSent = 0 then x.part else .pixels, bytesSent := bytesSent,
                   paused := true }
        { s with outLink := { s.outLink with send := some y } }
    | none => s

/-- R114: SEND_END. -/
def execSendEnd (s : State) : Host.Outcome State Fault Refusal :=
  s.event fun s =>
    match s.outLink.send with
    | some x => if x.paused then s else endSend x s
    | none => s

/-- R183: the copy an image write carried is the newest fully written since start. -/
def StoreWrite.generation? : StoreWrite → Option Nat
  | .image c _ => some c.generation
  | .lock _ _ _ => none

/-- R183: STORE_WRITE_END: a write that does not read back as written leaves its place torn and is not
counted; the next operation begins. -/
def execStoreWriteEnd (readBack : Bool) (s : State) : Host.Outcome State Fault Refusal :=
  s.event fun s =>
    match s.store.inFlight with
    | some w =>
      let newest := if readBack && w.generation?.isSome then w.generation?
        else s.store.newestWritten
      runStore { s with
        nv := w.finish s.nv readBack true
        store := { s.store with inFlight := none, newestWritten := newest } }
    | none => s

end Sys2Proof.Machine
end

