-- ==== Sys2Proof/Machine/PowerRows.lean ====
section
/-! DEFINITION. The meanings of start, power loss, the current samples and the claim unit's timers (R7 to R10, R28, R32, R33, R38, R40, R183, R184). -/

namespace Sys2Proof.Machine

/-- R184: the pins as START finds them. -/
def State.withPins (s : State) (straps : BitVec 4) (guard ready terminated : Bool) : State :=
  { s with
      straps := straps
      lens := { s.lens with guardActive := guard }
      outLink := { s.outLink with ready := ready, terminated := terminated }
      out := [] }

/-- R184: START. At power-on the supplies have become valid; the start of a RESTART is one of a supplied
hub (log 6, log 34). -/
def execStart (cause : StartCause) (straps : BitVec 4) (guard ready terminated : Bool) (s : State) :
    Host.Outcome State Fault Refusal :=
  match cause with
  | .powerOn => .next (startHub .powerOn (s.withPins straps guard ready terminated))
  | .restart =>
    s.event fun s => startHub .restart (s.withPins straps guard ready terminated)

/-- R183: POWER_LOSS: an operation in flight leaves its place torn or blank, and the queued ones are
lost. The rest of working memory has no effect until the next start sets it (log 6). -/
def execPowerLoss (s : State) : Host.Outcome State Fault Refusal :=
  s.event fun s =>
    let s := cutStoreOp s
    { s with supplied := false, store := { s.store with queue := [] } }

/-! ### Current supervision -/

/-- R1, R8: samples the history holds. -/
def historyPlaces : Nat := 20

/-- R8: the sample is recorded; in the history only while the port is powered. -/
def PowerPart.record (q : PowerPart) (x : Nat) : PowerPart :=
  let kept := if historyPlaces ≤ q.history.length then q.history.drop 1 else q.history
  { q with latest := x, history := if q.state.powered then kept ++ [x] else q.history }

/-- R8: the four cases of a sample in ON, in order. -/
def supervise (p : Port) (x : Nat) (s : State) : State :=
  let q := (s.port p).power
  if Config.tripLevel ≤ x then tripPath p true .portTripped (.tripSample x) .trip s
  else if x < Config.underLevel then
    if 100 ≤ q.undercurrent + 1 then tripPath p false .openSuspect .nothing .undercurrent s
    else s.modPower p fun q => { q with overdraw := 0, undercurrent := q.undercurrent + 1 }
  else if q.figure * 5 < x * 4 then
    if 20 ≤ q.overdraw + 1 then
      overdraw p (s.modPower p fun q => { q with overdraw := 0, undercurrent := 0 })
    else s.modPower p fun q => { q with overdraw := q.overdraw + 1, undercurrent := 0 }
  else s.modPower p fun q => { q with overdraw := 0, undercurrent := 0 }

/-- R8: CURRENT_SAMPLE. -/
def execCurrentSample (p : Port) (sample : BitVec 16) (s : State) :
    Host.Outcome State Fault Refusal :=
  s.event fun s =>
    let s := s.modPower p fun q => q.record sample.toNat
    if (s.port p).power.state = .on then supervise p sample.toNat s else s

/-- R7: INRUSH_END. -/
def execInrushEnd (p : Port) (limiterActive : Bool) (s : State) :
    Host.Outcome State Fault Refusal :=
  s.event fun s =>
    if (s.port p).power.state = .inrush then
      if limiterActive then tripPath p true .portTripped .tripInrush .trip s
      else
        let s := s.modPower p fun q =>
          { q with state := .on, inrushLeft := none, overdraw := 0, undercurrent := 0 }
        grantPiece (enterTraining p s)
    else s

/-! ### The claim unit's timers and the cell view -/

/-- R40: SETTLE_END. -/
def execSettleEnd (s : State) : Host.Outcome State Fault Refusal :=
  s.event fun s => tryClaim { s with claims := { s.claims with settle := none } }

/-- R28: BACKOFF_EXPIRY. -/
def execBackoffExpiry (s : State) : Host.Outcome State Fault Refusal :=
  s.event fun s => tryClaim { s with claims := { s.claims with backoff := none } }

/-- R32: REFRESH_EXPIRY. -/
def execRefreshExpiry (s : State) : Host.Outcome State Fault Refusal :=
  s.event fun s =>
    let s := { s with claims := { s.claims with refreshLeft := Config.refreshUs } }
    if s.muted then s else s.offerStanding

/-- R33: SURGE_EXPIRY. -/
def execSurgeExpiry (station : BitVec 4) (s : State) : Host.Outcome State Fault Refusal :=
  s.event fun s =>
    { s with view := s.view.map fun e =>
        if e.station = station.toNat then { e with surge := none } else e }

/-- R38: ENTRY_STALE; the own entry is always PRESENT (R34). -/
def execEntryStale (station : BitVec 4) (s : State) : Host.Outcome State Fault Refusal :=
  s.event fun s =>
    { s with view := s.view.map fun e =>
        if e.station = station.toNat ∧ e.station ≠ s.station then { e with stale := true } else e }

end Sys2Proof.Machine
end

