-- ==== Sys2Proof/Machine/SweepRows.lean ====
section
/-! DEFINITION. The meanings of the locator's events (R143, R147 to R152). -/

namespace Sys2Proof.Machine

/-- R148: accepted acquisitions a live session needs (R152), acquisitions of a dark sweep (R149) and of
a piece (R150), and rejections in a row that end either. -/
def liveWanted : Nat := 16
def darkWanted : Nat := 64
def pieceMost : Nat := 4
def rejectionsMost : Nat := 4

/-- R148, R149: a dark acquisition completes. -/
def darkAcquired (finished : List Port) (p : Port) (toCome : List Port) (r : SweepRec) (t : Trace)
    (s : State) : State :=
  let r := judgeTrace s.img.disturbLimit r t
  if darkWanted ≤ r.completed ∨ rejectionsMost ≤ r.rejections then
    grantPiece (endDark finished p toCome r s)
  else (s.setEngine (.darkRun finished p toCome r)).emit (.stimulus p)

/-- R54, R57: the port link allows a further acquisition of a piece. -/
def furtherAllowed (r : PortRec) : Bool :=
  r.link.time == .piece && !r.link.waitEntered && quietPort r

/-- R54, R57, R148, R150, R152: a live acquisition completes: the session ends, the piece ends, or the
next acquisition is allowed and launched. -/
def liveAcquired (se : Session) (launched : Nat) (t : Trace) (s : State) : State :=
  let se := { se with sweep := judgeTrace s.img.disturbLimit se.sweep t }
  if liveWanted ≤ se.sweep.n then
    endSession se (searched .live se.port se.sweep false false s) s
  else if rejectionsMost ≤ se.sweep.rejections ∨ pieceMost ≤ launched
      ∨ furtherAllowed (s.port se.port) = false then
    grantPiece (afterPiece se (pieceReported se.port s))
  else (s.setEngine (.piece se (launched + 1) true)).emit (.stimulus se.port)

/-- R148: ACQUISITION_COMPLETE. An acquisition that was discarded while under way is not judged. -/
def execAcquisitionComplete (trace : Trace) (s : State) : Host.Outcome State Fault Refusal :=
  s.event fun s =>
    match s.locator.engine with
    | .darkRun finished p toCome r => darkAcquired finished p toCome r trace s
    | .piece se launched true => liveAcquired se launched trace s
    | .piece _ _ false | .idle | .calibratingBatch _ | .calibratingSession _ | .waitingGap _ => s

/-- R152: a session that ends at its deadline with what it has. -/
def endShort (se : Session) (s : State) : State :=
  endSession se (searched .live se.port se.sweep true false s) s

/-- R147: CALIBRATION_COMPLETE. -/
def execCalibrationComplete (traces : List Trace) (s : State) : Host.Outcome State Fault Refusal :=
  s.event fun s =>
    let t := s.modLocator fun l => { l with calibration := some (calibrate traces) }
    match s.locator.engine with
    | .calibratingBatch ports => nextDark [] ports t
    | .calibratingSession se =>
      if se.due then endShort se t else grantPiece (t.setEngine (.waitingGap se))
    | .idle | .darkRun .. | .waitingGap _ | .piece .. => s

/-- R143, R149: the batch's ports in ascending order. -/
def formedOf (ports : List Port) : List Port := allPorts.filter fun p => p ∈ ports

/-- R143, R151: what the engine does on a newly formed batch. -/
def batchFormed (s : State) : State :=
  match s.locator.engine with
  | .idle => engineTake s
  | .calibratingSession se => setSessionAside se s
  | .waitingGap se => setSessionAside se s
  | .piece .. | .calibratingBatch _ | .darkRun .. => s

/-- R143: GATHERING_WINDOW_EXPIRY. -/
def execGatheringWindowExpiry (s : State) : Host.Outcome State Fault Refusal :=
  s.event fun s =>
    match s.locator.gathering with
    | some g =>
      let batch := formedOf g.ports
      let s := s.modLocator fun l => { l with gathering := none, formed := l.formed ++ [batch] }
      batchFormed (batch.foldl (fun s p => s.setStatus p .dark .formed) s)
    | none => s

/-- R152: the deadline expires with N below 4. -/
def incompleteResult (se : Session) (s : State) : SweepResult :=
  plainResult .live .incomplete se.sweep.n s.hubTime false

/-- R152: accepted acquisitions a session needs at its deadline. -/
def deadlineLeast : Nat := 4

/-- R152: DEADLINE_EXPIRY of the live session, be it the engine's work or set aside. -/
def execDeadlineExpiry (s : State) : Host.Outcome State Fault Refusal :=
  s.event fun s =>
    match s.locator.engine, s.locator.setAside with
    | .waitingGap se, _ | .piece se _ _, _ =>
      if deadlineLeast ≤ se.sweep.n then endShort se s
      else endSession se (incompleteResult se s) s
    | .calibratingSession se, _ =>
      if deadlineLeast ≤ se.sweep.n then
        s.setEngine (.calibratingSession { se with deadline := 0, due := true })
      else endSession se (incompleteResult se s) s
    | _, some se =>
      if deadlineLeast ≤ se.sweep.n then
        s.modLocator fun l => { l with setAside := some { se with deadline := 0, due := true } }
      else
        writeResult se.port (incompleteResult se s) .live
          (s.modLocator fun l => { l with setAside := none })
    | _, none => s

end Sys2Proof.Machine
end

