-- ==== Sys2Proof/Machine/TriggerRows.lean ====
section
/-! DEFINITION. The meanings of the sense edges and of the exposure machines' timers (R88, R91, R92, R96, R130). -/

namespace Sys2Proof.Machine

/-- R88: SENSE_EDGE. -/
def execSenseEdge (input : Fin 2) (s : State) : Host.Outcome State Fault Refusal :=
  s.event fun s =>
    match s.img.senseLine input with
    | none => s
    | some line =>
      if (s.sense input).pending ≠ .absent then dropEdge input .pending s
      else if s.muted then dropEdge input .mute s
      else if s.txFull then dropEdge input .queueFull s
      else (s.sensePending input .queued).joinTx (.trigger input line.val none)

/-- R91: DELAY_END. -/
def execDelayEnd (p : Port) (s : State) : Host.Outcome State Fault Refusal :=
  s.event fun s =>
    let e := (s.port p).exposure
    if e.state = .delaying ∧ e.timer.isSome then
      delayOver p (s.modExposure p fun e => { e with timer := none })
    else s

/-- R92: DEFER_EXPIRY. -/
def execDeferExpiry (p : Port) (s : State) : Host.Outcome State Fault Refusal :=
  s.event fun s => if (s.port p).exposure.state = .deferred then issueExpose p true s else s

/-- R96, R133: a scan capture that timed out cancels the scan of its run. -/
def timeoutScan (p : Port) (o : Origin) (s : State) : State :=
  match o with
  | .scan c => if c.run = (s.port p).scan.runNumber then cancelScan p .noFrame s else s
  | .line _ _ => s

/-- R96: the expose timer expires in EXPOSING. -/
def exposeTimedOut (p : Port) (o : Origin) (s : State) : State :=
  let s := s.modExposure p fun e => { e with timeouts := holdInc 65535 e.timeouts }
  let s := missed p o .noFrame (s.latch .exposeTimeout (some p) (.origin o))
  releaseWait .waitExposure p (timeoutScan p o (toIdle p s))

/-- R96: EXPOSE_TIMEOUT. A piece is granted last (log 12). -/
def execExposeTimeout (p : Port) (s : State) : Host.Outcome State Fault Refusal :=
  s.event fun s =>
    match (s.port p).exposure.state, (s.port p).exposure.origin with
    | .exposing, some o => grantPiece (exposeTimedOut p o s)
    | _, _ => s

/-- R130: SCAN_SETTLE_END. A piece is granted last (log 12). -/
def execScanSettleEnd (p : Port) (s : State) : Host.Outcome State Fault Refusal :=
  s.event fun s =>
    if (s.port p).scan.loader = .running ∧ (s.port p).scan.phase = some .settle then
      grantPiece (settleOver p s)
    else s

end Sys2Proof.Machine
end

