-- ==== Sys2Proof/Machine/Dispatch.lean ====
section
/-! DEFINITION. The effect of each command on everything but the queue: one arm for each row of the table. -/

namespace Sys2Proof.Machine

/-- The meaning of a command. -/
def exec (i : Instr) (s : State) : Host.Outcome State Fault Refusal :=
  match i with
  | .portPowerOn h port => Sys2Proof.Machine.execPortPowerOn h port s
  | .portPowerOff h port => Sys2Proof.Machine.execPortPowerOff h port s
  | .setLockout h port => Sys2Proof.Machine.execSetLockout h port s
  | .clearLockout h port kind => Sys2Proof.Machine.execClearLockout h port kind s
  | .portStatus h port => Sys2Proof.Machine.execPortStatus h port s
  | .forgetStation h station => Sys2Proof.Machine.execForgetStation h station s
  | .readCellView h => Sys2Proof.Machine.execReadCellView h s
  | .lensMove h axis mode target => Sys2Proof.Machine.execLensMove h axis mode target s
  | .lensStop h axis => Sys2Proof.Machine.execLensStop h axis s
  | .lensSetParam h axis param value => Sys2Proof.Machine.execLensSetParam h axis param value s
  | .lensRecover h axis => Sys2Proof.Machine.execLensRecover h axis s
  | .freezeRelease h => Sys2Proof.Machine.execFreezeRelease h s
  | .axisStatus h axis => Sys2Proof.Machine.execAxisStatus h axis s
  | .scanBegin h port count passes endAction storeFrames => Sys2Proof.Machine.execScanBegin h port count passes endAction storeFrames s
  | .scanStep h port index focus irisPresent iris captures settle => Sys2Proof.Machine.execScanStep h port index focus irisPresent iris captures settle s
  | .scanRun h port => Sys2Proof.Machine.execScanRun h port s
  | .scanAbortClear h port => Sys2Proof.Machine.execScanAbortClear h port s
  | .scanCancel h port => Sys2Proof.Machine.execScanCancel h port s
  | .scanResult h port => Sys2Proof.Machine.execScanResult h port s
  | .frameRelease h slot => Sys2Proof.Machine.execFrameRelease h slot s
  | .frameResend h slot => Sys2Proof.Machine.execFrameResend h slot s
  | .frameHeader h slot => Sys2Proof.Machine.execFrameHeader h slot s
  | .storeStatus h => Sys2Proof.Machine.execStoreStatus h s
  | .readMissed h record => Sys2Proof.Machine.execReadMissed h record s
  | .sweepStart h port kind powerDownOk => Sys2Proof.Machine.execSweepStart h port kind powerDownOk s
  | .sweepCancel h port => Sys2Proof.Machine.execSweepCancel h port s
  | .sweepResult h port => Sys2Proof.Machine.execSweepResult h port s
  | .readEvents h release => Sys2Proof.Machine.execReadEvents h release s
  | .configWrite h item index value => Sys2Proof.Machine.execConfigWrite h item index value s
  | .configCommit h => Sys2Proof.Machine.execConfigCommit h s
  | .restart h => Sys2Proof.Machine.execRestart h s
  | .start cause straps guardActive readyHigh terminated => Sys2Proof.Machine.execStart cause straps guardActive readyHigh terminated s
  | .currentSample port sample => Sys2Proof.Machine.execCurrentSample port sample s
  | .inrushEnd port limiterActive => Sys2Proof.Machine.execInrushEnd port limiterActive s
  | .settleEnd => Sys2Proof.Machine.execSettleEnd s
  | .backoffExpiry => Sys2Proof.Machine.execBackoffExpiry s
  | .refreshExpiry => Sys2Proof.Machine.execRefreshExpiry s
  | .surgeExpiry station => Sys2Proof.Machine.execSurgeExpiry station s
  | .entryStale station => Sys2Proof.Machine.execEntryStale station s
  | .attemptBegin => Sys2Proof.Machine.execAttemptBegin s
  | .arbitrationLost => Sys2Proof.Machine.execArbitrationLost s
  | .transmitFailure => Sys2Proof.Machine.execTransmitFailure s
  | .muteEnd => Sys2Proof.Machine.execMuteEnd s
  | .attemptEnd heard flaw hold => Sys2Proof.Machine.execAttemptEnd heard flaw hold s
  | .triggerReceived sender target lineByte sequence => Sys2Proof.Machine.execTriggerReceived sender target lineByte sequence s
  | .claimReceived sender target standing surge lifetime peerFlaw peerHold => Sys2Proof.Machine.execClaimReceived sender target standing surge lifetime peerFlaw peerHold s
  | .standingReceived sender target standing => Sys2Proof.Machine.execStandingReceived sender target standing s
  | .commandReceived sender target payload => Sys2Proof.Machine.execCommandReceived sender target payload s
  | .otherNoticeReceived sender target kind => Sys2Proof.Machine.execOtherNoticeReceived sender target kind s
  | .receiveError error reachesTrailer => Sys2Proof.Machine.execReceiveError error reachesTrailer s
  | .lockReport port locked => Sys2Proof.Machine.execLockReport port locked s
  | .streamLost port => Sys2Proof.Machine.execStreamLost port s
  | .resumeCheckExpiry port => Sys2Proof.Machine.execResumeCheckExpiry port s
  | .trainingTimeout port => Sys2Proof.Machine.execTrainingTimeout port s
  | .errorWindowEnd port => Sys2Proof.Machine.execErrorWindowEnd port s
  | .codeError port => Sys2Proof.Machine.execCodeError port s
  | .frameStart port format width height => Sys2Proof.Machine.execFrameStart port format width height s
  | .pixelData port row column pixels => Sys2Proof.Machine.execPixelData port row column pixels s
  | .frameEnd port rowsSent => Sys2Proof.Machine.execFrameEnd port rowsSent s
  | .positionReport port focus iris => Sys2Proof.Machine.execPositionReport port focus iris s
  | .lensUpdate axis => Sys2Proof.Machine.execLensUpdate axis s
  | .holdExpiry axis => Sys2Proof.Machine.execHoldExpiry axis s
  | .guardActivated => Sys2Proof.Machine.execGuardActivated s
  | .guardReleased => Sys2Proof.Machine.execGuardReleased s
  | .senseEdge input => Sys2Proof.Machine.execSenseEdge input s
  | .abandonStop port => Sys2Proof.Machine.execAbandonStop port s
  | .delayEnd port => Sys2Proof.Machine.execDelayEnd port s
  | .deferExpiry port => Sys2Proof.Machine.execDeferExpiry port s
  | .exposeTimeout port => Sys2Proof.Machine.execExposeTimeout port s
  | .scanSettleEnd port => Sys2Proof.Machine.execScanSettleEnd port s
  | .acquisitionComplete trace => Sys2Proof.Machine.execAcquisitionComplete trace s
  | .calibrationComplete traces => Sys2Proof.Machine.execCalibrationComplete traces s
  | .gatheringWindowExpiry => Sys2Proof.Machine.execGatheringWindowExpiry s
  | .deadlineExpiry => Sys2Proof.Machine.execDeadlineExpiry s
  | .terminationPresent => Sys2Proof.Machine.execTerminationPresent s
  | .terminationLost => Sys2Proof.Machine.execTerminationLost s
  | .alignEnd => Sys2Proof.Machine.execAlignEnd s
  | .readyHigh => Sys2Proof.Machine.execReadyHigh s
  | .readyLow => Sys2Proof.Machine.execReadyLow s
  | .sendPaused bytesSent => Sys2Proof.Machine.execSendPaused bytesSent s
  | .sendEnd => Sys2Proof.Machine.execSendEnd s
  | .storeWriteEnd readBack => Sys2Proof.Machine.execStoreWriteEnd readBack s
  | .powerLoss => Sys2Proof.Machine.execPowerLoss s

end Sys2Proof.Machine
end

