-- ==== Sys2Proof/Machine/Tick.lean ====
section
/-! DEFINITION. One microsecond of hub time: what an empty queue makes of a step (log 3). The expiry of a period is a command of its own and is not raised here (log 2). -/

namespace Sys2Proof.Machine

def AxisRec.tick (x : AxisRec) : AxisRec := { x with hold := x.hold.map Nat.pred }

/-- R112: a send that is not paused goes on from its record to its pixel data, where its slot holds any
(log 20). -/
def Send.tick (x : Send) (r : Option SlotRecord) : Send :=
  match r with
  | some r => if x.paused ∨ r.pixels = [] then x else { x with part := .pixels }
  | none => x

/-- R111, R112 -/
def OutLink.tick (l : OutLink) (slots : List Slot) : OutLink :=
  { l with
      alignLeft := l.alignLeft.map Nat.pred
      send := l.send.map fun x => x.tick (slots.getD x.slot freeSlot).record }

/-- R45, R49, R44: the link's times; training time advances in TRAINING while link time is FREE. -/
def LinkPart.tick (l : LinkPart) : LinkPart :=
  { l with
      trainUsed := if l.state = .training ∧ l.time = .free then
        min (l.trainUsed + 1) Config.trainingUs else l.trainUsed
      windowLeft := l.windowLeft.map Nat.pred
      resumeLeft := l.resumeLeft.map Nat.pred }

def PortRec.tick (r : PortRec) : PortRec :=
  { r with
      power := { r.power with inrushLeft := r.power.inrushLeft.map Nat.pred }
      link := r.link.tick
      focus := r.focus.tick
      iris := r.iris.tick
      exposure := { r.exposure with timer := r.exposure.timer.map Nat.pred }
      scan := { r.scan with settleLeft := r.scan.settleLeft.map Nat.pred } }

def Session.tick (se : Session) : Session := { se with deadline := se.deadline - 1 }

def Engine.tick : Engine → Engine
  | .calibratingSession se => .calibratingSession se.tick
  | .waitingGap se => .waitingGap se.tick
  | .piece se n u => .piece se.tick n u
  | .idle => .idle
  | .calibratingBatch ps => .calibratingBatch ps
  | .darkRun a p b r => .darkRun a p b r

def Locator.tick (l : Locator) : Locator :=
  { l with
      gathering := l.gathering.map fun g => { g with windowLeft := g.windowLeft - 1 }
      engine := l.engine.tick
      setAside := l.setAside.map Session.tick }

/-- R159: a microsecond is a released bit time on the line, where no notice is on it: none of the hub's own,
and none that the hub receives (log 40). -/
def LineIf.idled (l : LineIf) : Nat :=
  if l.tx = .attempt ∨ l.receiving then l.idle else min (l.idle + 1) Config.idleBits

/-- R159, R164 -/
def LineIf.tick (l : LineIf) : LineIf :=
  { l with
      idle := l.idled
      tx := match l.tx with
        | .ready => .ready
        | .attempt => .attempt
        | .mute left => .mute (left - 1) }

def ClaimUnit.tick (c : ClaimUnit) : ClaimUnit :=
  { c with backoff := c.backoff.map Nat.pred, settle := c.settle.map Nat.pred,
           refreshLeft := c.refreshLeft - 1 }

/-- R60: the update clock ticks every 1 ms; the phase is the microseconds since its last tick. -/
def LensHub.tick (x : LensHub) : LensHub :=
  { x with updatePhase := wrapInc Config.usPerMs x.updatePhase }

/-- One microsecond of a supplied hub. -/
def State.tick (s : State) : State :=
  if s.supplied then
    { s with
        hubTime := s.hubTime + 1
        ports := s.ports.map PortRec.tick
        claims := s.claims.tick
        lens := s.lens.tick
        outLink := s.outLink.tick s.frames.slots
        locator := s.locator.tick
        line := s.line.tick
        out := [] }
  else { s with out := [] }

end Sys2Proof.Machine
end

