-- ==== Sys2Proof/Machine/Line.lean ====
section
/-! DEFINITION. A notice as bits on the cell line (R158): the arbitration field, the CRC, the stuff bits, and reading them back. A released bit is true (1), a driven bit false (0). -/

namespace Sys2Proof.Machine

/-- R158: kind, sender, target, length, most significant bits first. -/
def headerBits (n : WireNotice) : List Bool :=
  beBits 3 n.kind.toNat ++ beBits 4 n.sender.toNat ++ beBits 4 n.target.toNat
    ++ beBits 5 n.payload.length

def payloadBits (bs : List Byte) : List Bool := bs.flatMap fun b => beBits 8 b.toNat

/-- R158: one step of the CRC with the generator x^16 + x^12 + x^5 + 1. -/
def crcStep (r : BitVec 16) (b : Bool) : BitVec 16 :=
  if (r.msb ^^ b) then (r <<< 1) ^^^ 0x1021 else r <<< 1

/-- R158: the register is set to all ones before the first header bit. -/
def crc16 (bits : List Bool) : BitVec 16 := bits.foldl crcStep 0xFFFF

/-- R158: header and payload, then their CRC. -/
def bodyBits (n : WireNotice) : List Bool := headerBits n ++ payloadBits n.payload

def coveredBits (n : WireNotice) : List Bool :=
  bodyBits n ++ beBits 16 (crc16 (bodyBits n)).toNat

/-- R158: bit stuffing. `level` is the level of the run so far and `run` its length: after five of one
level a bit of the other level follows, after the last bit of the CRC as well; the stuff bit is the
first of the next run. -/
def stuffFrom (level : Bool) (run : Nat) : List Bool → List Bool
  | [] => if run = 5 then [!level] else []
  | b :: bs =>
    if run = 5 then
      (!level) :: b :: stuffFrom b (if b = !level then 2 else 1) bs
    else b :: stuffFrom b (if b = level then run + 1 else 1) bs

/-- R158: the driven start bit, the covered bits, and the stuff bits. -/
def WireNotice.lineBits (n : WireNotice) : List Bool :=
  false :: stuffFrom false 1 (coveredBits n)

/-- Taking the stuff bits out again; none at a bit the line code does not allow (R158, R167). -/
def unstuffFrom (level : Bool) (run : Nat) : List Bool → Option (List Bool)
  | [] => if run = 5 then none else some []
  | b :: bs =>
    if run = 5 then
      if b = level then none else unstuffFrom b 1 bs
    else (unstuffFrom b (if b = level then run + 1 else 1) bs).map (b :: ·)

/-- Bytes of eight bits each, as many as `k`. -/
def bytesOf : (k : Nat) → List Bool → List Byte
  | 0, _ => []
  | k + 1, bits => BitVec.ofNat 8 (bitsValue (bits.take 8)) :: bytesOf k (bits.drop 8)

/-- R167, R185: whether a payload length is one that the kind's layout gives; the kinds but TRIGGER, CLAIM
and STANDING have no length of their own. -/
def lengthFits (kind len : Nat) : Bool :=
  match kind with
  | 0 => len == 2
  | 1 => len == 6
  | 2 => len == 2
  | _ => len ≤ Config.payloadBytes

/-- R167: what a receiver makes of the unstuffed bits from the first bit of the kind to the end of the
CRC: a notice, or none where the length field is above 24 or not the one of its kind, the sender field is
15, the notice breaks off, or the CRC differs. -/
def readCovered (bits : List Bool) : Option WireNotice :=
  let len := bitsValue ((bits.drop 11).take 5)
  let sender := bitsValue ((bits.drop 3).take 4)
  if lengthFits (bitsValue (bits.take 3)) len = false ∨ sender = 15
      ∨ bits.length ≠ 32 + 8 * len then none
  else
    let n : WireNotice :=
      { kind := BitVec.ofNat 3 (bitsValue (bits.take 3))
        sender := BitVec.ofNat 4 sender
        target := BitVec.ofNat 4 (bitsValue ((bits.drop 7).take 4))
        payload := bytesOf len (bits.drop 16) }
    if bitsValue (bits.drop (16 + 8 * len)) = (crc16 (bits.take (16 + 8 * len))).toNat then some n
    else none

/-- R167: a receiver reads the notice whose line bits these are. -/
def readLine : List Bool → Option WireNotice
  | [] => none
  | true :: _ => none
  | false :: bits => (unstuffFrom false 1 bits).bind readCovered

/-- R158: a notice of n payload bytes occupies 39 + 8n bit times plus its stuff bits, from its start bit
to the end of its HOLD slot. -/
def WireNotice.bitTimes (n : WireNotice) : Nat := n.lineBits.length + 6

end Sys2Proof.Machine
end

