-- ==== Sys2Proof/Safety.lean ====
section
/-! DEFINITION. What counts as a safe run of the hub, and the terms the statements use: when a command is taken at once, what its reply does, and the invariants every event is to keep. -/

namespace Sys2Proof

/-- The command a row of the catalogue carries, with its head. -/
def Instr.cmd? : Instr → Option (CmdHead × Cmd)
  | .portPowerOn h port => some (h, .portPowerOn port)
  | .portPowerOff h port => some (h, .portPowerOff port)
  | .setLockout h port => some (h, .setLockout port)
  | .clearLockout h port kind => some (h, .clearLockout port kind)
  | .portStatus h port => some (h, .portStatus port)
  | .forgetStation h station => some (h, .forgetStation station)
  | .readCellView h => some (h, .readCellView)
  | .lensMove h axis mode target => some (h, .lensMove axis mode target)
  | .lensStop h axis => some (h, .lensStop axis)
  | .lensSetParam h axis param value => some (h, .lensSetParam axis param value)
  | .lensRecover h axis => some (h, .lensRecover axis)
  | .freezeRelease h => some (h, .freezeRelease)
  | .axisStatus h axis => some (h, .axisStatus axis)
  | .scanBegin h port count passes endAction storeFrames =>
    some (h, .scanBegin port count passes endAction storeFrames)
  | .scanStep h port index focus irisPresent iris captures settle =>
    some (h, .scanStep port index focus irisPresent iris captures settle)
  | .scanRun h port => some (h, .scanRun port)
  | .scanAbortClear h port => some (h, .scanAbortClear port)
  | .scanCancel h port => some (h, .scanCancel port)
  | .scanResult h port => some (h, .scanResult port)
  | .frameRelease h slot => some (h, .frameRelease slot)
  | .frameResend h slot => some (h, .frameResend slot)
  | .frameHeader h slot => some (h, .frameHeader slot)
  | .storeStatus h => some (h, .storeStatus)
  | .readMissed h record => some (h, .readMissed record)
  | .sweepStart h port kind powerDownOk => some (h, .sweepStart port kind powerDownOk)
  | .sweepCancel h port => some (h, .sweepCancel port)
  | .sweepResult h port => some (h, .sweepResult port)
  | .readEvents h release => some (h, .readEvents release)
  | .configWrite h item index value => some (h, .configWrite item index value)
  | .configCommit h => some (h, .configCommit)
  | .restart h => some (h, .restart)
  | .start .. => none
  | .currentSample .. => none
  | .inrushEnd .. => none
  | .settleEnd => none
  | .backoffExpiry => none
  | .refreshExpiry => none
  | .surgeExpiry _ => none
  | .entryStale _ => none
  | .attemptBegin => none
  | .arbitrationLost => none
  | .transmitFailure => none
  | .muteEnd => none
  | .attemptEnd .. => none
  | .triggerReceived .. => none
  | .claimReceived .. => none
  | .standingReceived .. => none
  | .commandReceived .. => none
  | .otherNoticeReceived .. => none
  | .receiveError .. => none
  | .lockReport .. => none
  | .streamLost _ => none
  | .resumeCheckExpiry _ => none
  | .trainingTimeout _ => none
  | .errorWindowEnd _ => none
  | .codeError _ => none
  | .frameStart .. => none
  | .pixelData .. => none
  | .frameEnd .. => none
  | .positionReport .. => none
  | .lensUpdate _ => none
  | .holdExpiry _ => none
  | .guardActivated => none
  | .guardReleased => none
  | .senseEdge _ => none
  | .abandonStop _ => none
  | .delayEnd _ => none
  | .deferExpiry _ => none
  | .exposeTimeout _ => none
  | .scanSettleEnd _ => none
  | .acquisitionComplete _ => none
  | .calibrationComplete _ => none
  | .gatheringWindowExpiry => none
  | .deadlineExpiry => none
  | .terminationPresent => none
  | .terminationLost => none
  | .alignEnd => none
  | .readyHigh => none
  | .readyLow => none
  | .sendPaused _ => none
  | .sendEnd => none
  | .storeWriteEnd _ => none
  | .powerLoss => none

/-- Commands in whose event a start can take place: START, RESTART, and a COMMAND that may carry
RESTART. -/
def Instr.mayStart : Instr → Bool
  | .start .. => true
  | .restart _ => true
  | .commandReceived .. => true
  | _ => false

end Sys2Proof

namespace Sys2Proof.Machine

/-! ### Commands taken at once (R170 to R173) -/

/-- A command of this head is taken in the event in which it arrives: the hub is supplied and addressed,
the command unit is READY and no other command waits. -/
def State.takes (s : State) (h : CmdHead) : Bool :=
  s.supplied && addressed h s && s.commands.unit == .ready && s.commands.buffer.isEmpty

/-- The state the owner of a taken command acts on: the command has been counted (R169). -/
def State.begun (s : State) : State :=
  { s with
      out := []
      commands := { s.commands with buffer := [], taken := wrapInc 65536 s.commands.taken } }

/-- R173: the reply to a command of this head and code is built from the state `s` its owner leaves, and
its parts are offered to the transmit queue. -/
def replied (h : CmdHead) (code : Byte) (a : Answer) (s : State) : State :=
  pumpParts (replyParts h code a (summaryFlags s)) (s.modCommands fun u => { u with unit := .replying })

/-! ### What only a start changes (R182, R184) -/

/-- A RESTART has been taken, or waits in the receive buffer (R174). -/
def State.restartWaits (s : State) : Bool :=
  s.commands.unit == .restarting || s.commands.buffer.any fun c => c.cmd == .restart

/-- What a start alone sets: the straps as read, the station number, the image in force and the hub time
of the events between two ticks. -/
def State.sameSetting (s t : State) : Bool :=
  t.straps == s.straps && t.station == s.station && t.store.inForce == s.store.inForce
    && t.hubTime == s.hubTime

/-! ### Invariants -/

/-- Section 1.1: a port's switch is closed exactly while the port is powered. -/
def State.switchesMatch (s : State) : Bool :=
  allPorts.all fun p => (s.port p).power.closed == (s.port p).power.state.powered

/-- Every table and every queue has the size the spec gives it: 32 slots (R104), 25 event entries
(R175), 16 lines (R85), at most 16 notices (R165), 4 commands (R169), 4 store operations (R183), 16
missed records (R100) and 20 samples for each port (R1). -/
def State.bounded (s : State) : Bool :=
  s.frames.slots.length == 32 && s.events.length == 25 && s.triggers.lines.length == 16
    && s.line.queue.length ≤ Config.txPlaces && s.commands.buffer.length ≤ Config.rxPlaces
    && s.store.queue.length ≤ storePlaces && s.triggers.missed.length ≤ missedPlaces
    && allPorts.all fun p => (s.port p).power.history.length ≤ historyPlaces

/-- What the claim in flight must ask for: never less than the required standing that follows its
grant (R27); a withdrawn one powers no port (R29). -/
def State.claimCovers (s : State) (c : ClaimInFlight) : Bool :=
  let q := (s.port c.req.port).power
  s.required ≤ c.standing &&
    (c.withdrawn || match c.req.kind with
      | .powerOn =>
        q.state.powered
          || s.required + q.figure + (if s.anyPowered then 0 else s.img.lensReserve) ≤ c.standing
      | .correction f => !q.state.powered || s.required + f ≤ c.standing + q.figure)

/-- The hub's ports never need more than the cell has granted (R22, R27, R30, R31). -/
def State.covered (s : State) : Bool :=
  s.required ≤ s.claims.granted && s.claims.reserveHeld == s.anyPowered
    && s.claims.inFlight.all fun c => s.claimCovers c

/-- The lens reserve is never given out twice (R31, R63, R67, R68): the allowances together stay within
the reserve amount, the wait list holds each axis once and only axes in WAIT_POWER, an OFFLINE axis holds
no allowance, and a port that is not powered has its link DARK and its axes OFFLINE. -/
def State.reserveKept (s : State) : Bool :=
  s.allowances ≤ s.reserveAmount && decide s.lens.waitList.Nodup
    && s.lens.waitList.all (fun a => (s.axis a).state == .waitPower)
    && allAxes.all (fun a => (s.axis a).state != .offline || (s.axis a).allowance == 0)
    && allPorts.all fun p => (s.port p).power.state.powered
        || ((s.port p).link.state == .dark && (s.port p).focus.state == .offline
            && (s.port p).iris.state == .offline)

/-- R68: what stays on the power wait list keeps its order, and what joins it stands behind. -/
def State.keepsArrivals (s t : State) : Bool :=
  t.lens.waitList == s.lens.waitList.filter (fun a => decide (a ∈ t.lens.waitList))
    ++ t.lens.waitList.filter (fun a => decide (a ∉ s.lens.waitList))

/-! ### The tables in their order -/

/-- R24: the request of the claim in flight, where it has not been withdrawn. -/
def State.flying (s : State) : List ClaimReq :=
  match s.claims.inFlight with
  | some c => if c.withdrawn then [] else [c.req]
  | none => []

/-- R24: a request stands for a port that is CLAIMING, or for one in ON whose correction is pending. -/
def State.standsFor (s : State) (q : ClaimReq) : Bool :=
  let w := (s.port q.port).power
  match q.kind with
  | .powerOn => w.state == .claiming
  | .correction _ => w.state == .on && w.correctionPending

/-- R24: the claim queue holds at most 4 requests, and with the one in flight at most one for each port,
each in the port's state that it was made for, but for a withdrawn one that MUTE has put back, whose port is
OFF (R164). The port of a claim withdrawn in flight is OFF, or a newer request of it waits. -/
def State.claimsOrdered (s : State) : Bool :=
  let reqs := s.claims.queue ++ s.flying
  s.claims.queue.length ≤ 4 && decide (reqs.map ClaimReq.port).Nodup && s.flying.all s.standsFor
    && (s.claims.queue.all fun q => s.standsFor q || (s.port q.port).power.state == .off)
    && s.claims.inFlight.all fun c => !c.withdrawn || (s.port c.req.port).power.state == .off
        || s.claims.queue.any fun q => q.port == c.req.port

/-- R33, R34: the cell view holds at most 15 entries, one for each station and in order of station number;
the own entry is among them and is PRESENT. -/
def State.viewOrdered (s : State) : Bool :=
  s.view.length ≤ 15 && decide ((s.view.map CellEntry.station).Pairwise (· < ·))
    && s.view.all (fun e => decide (e.station < 15)) && decide (s.station < 15)
    && s.view.any fun e => e.station == s.station && !e.stale

/-- R124 to R126: a program holds at most the steps its header counts, 2 to 16 with 1 to 4 passes, and a
load expects the step that follows those it holds. -/
def Scan.ordered (x : Scan) : Bool :=
  x.program.length ≤ 16 && x.result.tallies.length ≤ 16
    && x.header.all (fun h => 2 ≤ h.count && h.count ≤ 16 && 1 ≤ h.passes && h.passes ≤ 4
        && x.program.length ≤ h.count)
    && (x.loader != .loading || (x.header.any (fun h => decide (x.program.length < h.count))
        && x.expected == some x.program.length))

/-- R24, R33, R124: the claim queue, the cell view and the scan programs are in order. -/
def State.ordered (s : State) : Bool :=
  s.claimsOrdered && s.viewOrdered && allPorts.all fun p => (s.port p).scan.ordered

/-- R141, R155: the ports that dark batches hold: those that gather, those of the formed batches, and those
of the engine's batch whose result is not written yet. -/
def Locator.darkHeld (l : Locator) : List Port :=
  (match l.gathering with | some g => g.ports | none => []) ++ l.formed.flatten
    ++ (match l.engine with
        | .calibratingBatch ps => ps
        | .darkRun _ p rest _ => p :: rest
        | .idle | .calibratingSession _ | .waitingGap _ | .piece .. => [])

/-- R139, R141, R143: the work list holds at most one entry for each port, 4 in all; a DARK entry stands
exactly for a port that a batch holds, and it is GATHERING exactly in the gathering batch. -/
def State.workOrdered (s : State) : Bool :=
  let l := s.locator
  l.work.length ≤ 4 && decide (l.work.map WorkEntry.port).Nodup && decide l.darkHeld.Nodup
    && l.darkHeld.all (fun p => (s.entry? p .dark).isSome)
    && l.work.all fun e => e.kind == .live || (decide (e.port ∈ l.darkHeld)
        && (e.status == .gathering) == l.gathering.any fun g => decide (e.port ∈ g.ports))

/-- R3, R4: a port that is not OFF has neither lockout and no DARK entry, and its switch is closed exactly
while it is powered: no switch is closed while a lockout is set. -/
def State.locksHold (s : State) : Bool :=
  s.workOrdered && allPorts.all fun p =>
    let w := (s.port p).power
    w.closed == w.state.powered
      && (w.state == .off || (!w.volatileLock && !w.retainedLock && (s.entry? p .dark).isNone))

/-- R103, R104, R109, R111: 32 slots, of which the FREE ones alone have no record; the outbound queue holds
exactly the READY slots, each once; the slot of the send in progress alone is SENDING or
RELEASE_PENDING. -/
def State.slotsOrdered (s : State) : Bool :=
  s.frames.slots.length == 32 && decide s.frames.outQueue.Nodup
    && s.frames.outQueue.all (fun n => decide (n < 32))
    && s.outLink.send.all (fun x => decide (x.slot < 32))
    && (List.range 32).all fun n =>
        let x := s.slot n
        (x.state == .free) == x.record.isNone
          && decide (n ∈ s.frames.outQueue) == (x.state == .ready)
          && (x.state == .sending || x.state == .releasePending)
              == s.outLink.send.any fun y => y.slot == n

/-- R30, R160, R162, R165: the transmit queue stands in order of kind, as section 9.1 numbers the kinds; one
notice of it is in an attempt while an attempt is on the line, and none is otherwise; at most one STANDING
waits for its attempt; and the CLAIM in it, at most one, is that of the claim in flight (R25). -/
def State.queueOrdered (s : State) : Bool :=
  let q := s.line.queue
  let kind (x : TxItem) : Nat := match x.body with
    | .trigger _ _ _ => 0
    | .claim => 1
    | .standing _ => 2
    | .reply _ => 4
    | .report _ => 5
  decide ((q.map kind).Pairwise (· ≤ ·))
    && q.countP TxItem.sending == (if s.line.tx = .attempt then 1 else 0)
    && q.countP (fun x => kind x == 2 && !x.sending) ≤ 1
    && q.countP (fun x => kind x == 1) == s.claims.inFlight.isSome.toNat

/-- A safe state. -/
def State.safe (s : State) : Bool := s.switchesMatch && s.bounded && s.covered

/-- The state after at most `n` steps, as long as every step answers a next state. -/
def runSteps : Nat → State → Option State
  | 0, s => some s
  | n + 1, s =>
    match step s with
    | .next t => runSteps n t
    | .fault _ => none
    | .refused _ => none

/-- A safe run: every state of it is safe, and no step of it ends in a fault or a refusal. -/
def SafeRun (s : State) : Prop := ∀ n, (runSteps n s).any State.safe = true

/-! ### Terms of the cell line's statements -/

/-- No level of the line lasts six bit times or more within a notice (R158). -/
def noRunOfSix (bits : List Bool) : Prop := ∀ b : Bool, ¬ List.replicate 6 b <:+: bits

/-- A notice a hub or a station of the cell can send: a payload of the length its kind has, of at most 24
bytes, and a sender that is a station (R158, R167, R185). -/
def WireNotice.sendable (n : WireNotice) : Bool :=
  lengthFits n.kind.toNat n.payload.length && n.sender != 15

end Sys2Proof.Machine
end

