-- ==== Sys2Proof/Certificates/Slice0/Obligations.lean ====
section
/-! DEFINITION. The statements for the provers, family by family, each with the rule of spec/ it formalises. -/

open Sys2Proof Sys2Proof.Machine

/-! ### Steps, the queue, and what only a start changes -/

/-- A step takes the command at the front of the queue and runs it with the queue's rest. -/
def Obligations.StepRunsTheFrontCommand : Prop :=
  ∀ (c : Instr) (s : State) (rest : List Instr),
    step { s with pending := c :: rest } = exec c { s with pending := rest }

/-- With nothing waiting, a step of a supplied hub is one microsecond: the hub time advances, every period
that runs has one microsecond less, to 0 at the least (inrush, backoff, settle, refresh, error window,
resumption check, hold, exposure timer, settle wait of a scan, gathering window, session deadlines,
alignment, MUTE), the training time of a port in TRAINING whose link time is FREE grows to 500 ms, the lens
update phase wraps after 1 ms, the idle count grows to 11 where no notice is on the line, and nothing is
raised (the model's choice, logs 3 and 40). -/
def Obligations.IdleStepIsOneMicrosecond : Prop :=
  ∀ s : State, s.pending = [] → s.supplied = true →
    ∃ t, step s = .next t ∧ t.hubTime = s.hubTime + 1
      ∧ t.claims = { s.claims with
          backoff := s.claims.backoff.map Nat.pred
          settle := s.claims.settle.map Nat.pred
          refreshLeft := s.claims.refreshLeft - 1 }
      ∧ (∀ p, let r := s.port p
        (t.port p).power = { r.power with inrushLeft := r.power.inrushLeft.map Nat.pred }
          ∧ (t.port p).link = { r.link with
              trainUsed := if r.link.state = .training ∧ r.link.time = .free then
                min (r.link.trainUsed + 1) 500000 else r.link.trainUsed
              windowLeft := r.link.windowLeft.map Nat.pred
              resumeLeft := r.link.resumeLeft.map Nat.pred }
          ∧ (∀ n, (t.port p).axis n = { r.axis n with hold := (r.axis n).hold.map Nat.pred })
          ∧ (t.port p).exposure = { r.exposure with timer := r.exposure.timer.map Nat.pred }
          ∧ (t.port p).scan = { r.scan with settleLeft := r.scan.settleLeft.map Nat.pred }
          ∧ (t.port p).frameCounter = r.frameCounter ∧ (t.port p).metric = r.metric
          ∧ (t.port p).sweep = r.sweep)
      ∧ t.lens = { s.lens with updatePhase := (s.lens.updatePhase + 1) % 1000 }
      ∧ t.outLink.state = s.outLink.state
      ∧ t.outLink.alignLeft = s.outLink.alignLeft.map Nat.pred
      ∧ (let ran (se : Session) : Session := { se with deadline := se.deadline - 1 }
        t.locator = { s.locator with
          gathering := s.locator.gathering.map fun g => { g with windowLeft := g.windowLeft - 1 }
          setAside := s.locator.setAside.map ran
          engine := match s.locator.engine with
            | .calibratingSession se => .calibratingSession (ran se)
            | .waitingGap se => .waitingGap (ran se)
            | .piece se n u => .piece (ran se) n u
            | e => e })
      ∧ t.line = { s.line with
          idle := if s.line.tx = .attempt ∨ s.line.receiving = true then s.line.idle
            else min (s.line.idle + 1) 11
          tx := match s.line.tx with
            | .mute left => .mute (left - 1)
            | x => x }
      ∧ t.view = s.view ∧ t.frames = s.frames
      ∧ t.events = s.events ∧ t.store = s.store ∧ t.nv = s.nv ∧ t.commands = s.commands
      ∧ t.triggers = s.triggers ∧ t.pending = [] ∧ t.out = []

/-- R182, R183, R184: no command's effect touches the queue of the commands that wait. The straps as read,
the station number and the image in force stand from one start to the next, unless a RESTART taken earlier
waits for its reply; and the stored copies change only as an operation ends, is cut short by a power loss,
or by a start. No command but a start moves the hub time either: that is the model's choice (log 3), by
which time passes only in a step with an empty queue; the hub's own time runs on (R184, log 32). -/
def Obligations.OnlyAStartChangesTheSetting : Prop :=
  ∀ (i : Instr) (s t : State), exec i s = .next t →
    t.pending = s.pending
      ∧ (i.mayStart = false → s.restartWaits = false →
          s.sameSetting t = true
            ∧ ((∀ ok, i ≠ .storeWriteEnd ok) → i ≠ .powerLoss → t.nv = s.nv))

/-- R183: a hub without supplies does nothing until they return: every command but the start of a
power-on leaves it as it is (the model's choice, log 6). -/
def Obligations.UnsuppliedHubDoesNothing : Prop :=
  ∀ (i : Instr) (s : State), s.supplied = false →
    (∀ straps g r t, i ≠ .start .powerOn straps g r t) → exec i s = .next s.fresh

/-! ### Start and power loss -/

/-- R184: a start, of either cause: the station number from the straps, the image in force from the newer
stored copy or the defaults (whose items are the model's where the spec gives none, log 5), the cell view
holding the own entry alone, last heard at the hub time of the start (the model's choice, log 39), the
retained lockouts from their records, every port OFF, the claim unit settling with an empty queue and no
claim, the frame store, the trigger unit, the locator, the command unit and the operation queue empty, the
transmit queue holding the STANDING of 0 and the REPORT of STARTED where it is reported, STARTED latched with
the start record, which tells the cause, the defaulted image, the torn places, the straps at 15 and the
generation; hub time from 0 at power-on and kept over a RESTART. A power-on wakes a hub without supplies, and
starts a supplied hub as well (the model's choice, log 34). A store operation in flight leaves its place torn
or blank first. -/
def Obligations.StartSetsTheHub : Prop :=
  ∀ (cause : StartCause) (straps : BitVec 4) (guard ready terminated : Bool) (s : State),
    (cause = .powerOn ∨ s.supplied = true) →
    ∃ t, exec (.start cause straps guard ready terminated) s = .next t
      ∧ t.supplied = true ∧ t.straps = straps ∧ t.station = min straps.toNat 14
      ∧ t.hubTime = (match cause with | .powerOn => 0 | .restart => s.hubTime)
      ∧ (match s.store.inFlight with
          | none => t.nv = s.nv
          | some w => t.nv = w.finish s.nv false false ∨ t.nv = w.finish s.nv false true)
      ∧ t.store.inForce = (match t.nv.image.newest ImageCopy.generation with
          | some c => c.items
          | none => defaultImage)
      ∧ t.store.working = t.store.inForce ∧ t.store.queue = [] ∧ t.store.inFlight = none
      ∧ t.pending = s.pending
      ∧ (∀ p, (t.port p).power.state = .off ∧ (t.port p).power.closed = false
          ∧ (t.port p).power.volatileLock = false
          ∧ (t.port p).power.retainedLock = (t.nv.locks.get p).retained
          ∧ (t.port p).power.figure = t.img.figure p
          ∧ (t.port p).link.state = .dark
          ∧ (t.port p).focus.state = .offline ∧ (t.port p).iris.state = .offline)
      ∧ t.claims.granted = 0 ∧ t.claims.reserveHeld = false ∧ t.claims.queue = []
      ∧ t.claims.inFlight = none ∧ t.claims.backoff = none ∧ t.claims.settle = some 1500000
      ∧ t.claims.refreshLeft = 500000 ∧ t.claims.standingWanted = false
      ∧ (let r := startRecordOf cause straps t.nv
        let report : List TxItem := if t.img.reported .started = true then
          [⟨.report ⟨.started, none, .start r, t.hubTime, 1⟩, false⟩] else []
        r.cause = cause ∧ (r.station15 = true ↔ straps = 15)
          ∧ (r.imageDefaulted = true ↔ t.nv.image.newest ImageCopy.generation = none)
          ∧ (r.imageTorn = true ↔ t.nv.image.first = .torn ∨ t.nv.image.second = .torn)
          ∧ (∀ p, r.storeTorn.get p = true ↔ (t.nv.locks.get p).first = .torn
              ∨ (t.nv.locks.get p).second = .torn)
          ∧ r.generation = (t.nv.image.newest ImageCopy.generation).map (fun c => c.generation)
          ∧ t.line = { startLineIf with queue := ⟨.standing none, false⟩ :: report }
          ∧ (t.events.getD 24 clearedEntry).detail = some (.start r))
      ∧ t.view = [⟨min straps.toNat 14, 0, none, t.hubTime, false⟩]
      ∧ t.lens.guardActive = guard ∧ t.lens.waitList = [] ∧ t.frames = startFrames
      ∧ t.triggers = startTriggers ∧ t.locator = startLocator ∧ t.commands = startCommands
      ∧ t.outLink.state = (if terminated then .aligning else .absent)
      ∧ (t.events.getD 24 clearedEntry).latched = true

/-- R183: a power loss: an operation in flight leaves its place torn or blank, the queued operations are
lost, and the hub goes without supplies. -/
def Obligations.PowerLossCutsTheStore : Prop :=
  ∀ s : State, s.supplied = true →
    ∃ t, exec .powerLoss s = .next t ∧ t.supplied = false ∧ t.store.queue = []
      ∧ t.store.inFlight = none
      ∧ (match s.store.inFlight with
          | none => t.nv = s.nv
          | some w => t.nv = w.finish s.nv false false ∨ t.nv = w.finish s.nv false true)

/-! ### The command unit -/

/-- R170, R172: a command whose target is neither the hub's own station number nor 15 is ignored: it is
not buffered, not executed and not answered. One that finds the unit not READY and room in the receive
buffer waits at its tail, and nothing else happens. -/
def Obligations.CommandIsIgnoredOrWaits : Prop :=
  ∀ (i : Instr) (h : CmdHead) (c : Cmd) (s : State), i.cmd? = some (h, c) →
    (h.target.toNat ≠ s.station → h.target ≠ 15 → exec i s = .next s.fresh)
    ∧ (s.supplied = true → addressed h s = true → s.commands.unit ≠ .ready →
        s.commands.buffer.length < 4 →
        exec i s = .next { s.fresh with
          commands := { s.commands with buffer := s.commands.buffer ++ [⟨h, c⟩] } })

/-- R171: a command received while the buffer holds 4 is not executed; it is counted and answered by a
one-part REPLY, REFUSED with OVERFLOW, which joins the queue, displaces the youngest waiting REPORT,
becomes the held REPLY, or is discarded and counted. -/
def Obligations.CommandOverflowIsAnswered : Prop :=
  ∀ (i : Instr) (h : CmdHead) (c : Cmd) (s : State), i.cmd? = some (h, c) →
    s.supplied = true → addressed h s = true → s.commands.buffer.length = 4 →
    let u : State := { s.fresh with
      commands := { s.commands with overflows := holdInc 65535 s.commands.overflows } }
    let r : Reply := ⟨h.sender, h.tag, c.code, .refused, .overflow, summaryFlags s, 0, true, false, []⟩
    (s.muted = true → exec i s = .next u.countReplyLost)
    ∧ (s.muted = false → s.line.queue.length < 16 → exec i s = .next (u.joinTx (.reply r)))
    ∧ (s.muted = false → 16 ≤ s.line.queue.length →
        ∀ q, dropYoungestReport s.line.queue = some q →
          exec i s = .next
            ({ u with line := { u.line with queue := q } }.countReportLost.joinTx (.reply r)))
    ∧ (s.muted = false → 16 ≤ s.line.queue.length → dropYoungestReport s.line.queue = none →
        s.line.held = none →
          exec i s = .next { u with line := { u.line with held := some (.overflow r) } })
    ∧ (s.muted = false → 16 ≤ s.line.queue.length → dropYoungestReport s.line.queue = none →
        s.line.held ≠ none → exec i s = .next u.countReplyLost)

/-- R170, R172, R173: a command that is taken at once is counted, has its owner's effect, and is
answered. The rows of the catalogue act at the command unit (the model's reading, log 1). (RESTART has a
statement of its own.) -/
def Obligations.CommandIsTakenAtOnce : Prop :=
  ∀ (i : Instr) (h : CmdHead) (c : Cmd) (s : State), i.cmd? = some (h, c) → c ≠ .restart →
    s.takes h = true →
    exec i s = .next (replied h c.code (perform c s.begun).2 (perform c s.begun).1)

/-- R168, R170, R172, R173: a COMMAND notice on the line whose payload is the code, the tag and the
arguments of a command of the catalogue is received as that command's row is, and its sender is heard. One
with an unknown code, or with argument bytes that its code's layout does not have, is refused with
BAD_ARGUMENT and has no effect but its count and its reply. (What hearing the sender does is in
PeerNoticesAreJudged, and so are a notice that R167 makes a receive error, from a sender field of 15 or with
a payload of more than 24 bytes, and one that the hub does not receive. When a hub receives a notice is the
model's reading, log 40, and that the sender is heard before the command is taken is its choice, log 55.) -/
def Obligations.WireCommandIsTheRow : Prop :=
  ∀ (sender target : BitVec 4) (tag : Byte) (s : State), s.supplied = true → sender ≠ 15 →
    s.line.idle = 11 ∨ s.line.receiving = true →
    let u := hearNotice sender false s.fresh
    let h : CmdHead := ⟨sender, target, tag⟩
    (∀ c : Cmd, (∀ code args, c ≠ .malformed code args) →
      exec (.commandReceived sender target (c.code :: tag :: c.args)) s = .next (receive h c u))
    ∧ (∀ (code : Byte) (args : List Byte),
      (∀ c : Cmd, c.code = code → c.args = args → c = .malformed code args) →
      args.length ≤ 22 → s.takes h = true →
      exec (.commandReceived sender target (code :: tag :: args)) s
        = .next (replied h code (refuse .badArgument)
            { u with commands := { s.commands with
                buffer := [], taken := wrapInc 65536 s.commands.taken } }))

/-- R172: a port above 3, an axis above 7, a slot above 31 and a station above 14 are refused with
BAD_ARGUMENT, and the command changes nothing but its count and its reply. -/
def Obligations.ArgumentOutOfRangeIsRefused : Prop :=
  ∀ (h : CmdHead) (b x y z w v : Byte) (s : State), s.takes h = true →
    let no (code : Byte) : Host.Outcome State Fault Refusal :=
      .next (replied h code (refuse .badArgument) s.begun)
    (4 ≤ b.toNat →
      exec (.portPowerOn h b) s = no 0x01 ∧ exec (.portPowerOff h b) s = no 0x02
      ∧ exec (.setLockout h b) s = no 0x03 ∧ exec (.clearLockout h b x) s = no 0x04
      ∧ exec (.portStatus h b) s = no 0x05 ∧ exec (.scanBegin h b x y z w) s = no 0x0E
      ∧ (∀ f i, exec (.scanStep h b x f y i z w) s = no 0x0F) ∧ exec (.scanRun h b) s = no 0x10
      ∧ exec (.scanAbortClear h b) s = no 0x11 ∧ exec (.scanCancel h b) s = no 0x12
      ∧ exec (.scanResult h b) s = no 0x13 ∧ exec (.sweepStart h b x y) s = no 0x19
      ∧ exec (.sweepCancel h b) s = no 0x1A ∧ exec (.sweepResult h b) s = no 0x1B)
    ∧ (8 ≤ b.toNat →
      (∀ d, exec (.lensMove h b x d) s = no 0x08) ∧ exec (.lensStop h b) s = no 0x09
      ∧ (∀ d, exec (.lensSetParam h b v d) s = no 0x0A) ∧ exec (.lensRecover h b) s = no 0x0B
      ∧ exec (.axisStatus h b) s = no 0x0D)
    ∧ (32 ≤ b.toNat →
      exec (.frameRelease h b) s = no 0x14 ∧ exec (.frameResend h b) s = no 0x15
      ∧ exec (.frameHeader h b) s = no 0x16)
    ∧ (15 ≤ b.toNat → exec (.forgetStation h b) s = no 0x06)

/-- R172, R186: the status commands answer DONE with the state as it stands and change nothing but the
count of commands taken and the reply's place. How the results of these commands spell the state, where
chapter 12 leaves it open, is the model's choice (log 9, with logs 23, 37 and 38). -/
def Obligations.StatusCommandsChangeNothing : Prop :=
  ∀ (h : CmdHead) (b : Byte) (s : State), s.takes h = true →
    (∀ p, portArg b = some p →
      exec (.portStatus h b) s = .next (replied h 0x05 (done (portStatus s.begun p)) s.begun)
      ∧ exec (.scanResult h b) s
          = .next (replied h 0x13 (done (scanStatus (s.port p).scan)) s.begun)
      ∧ exec (.sweepResult h b) s
          = .next (replied h 0x1B (done (sweepStatusBytes p s.begun)) s.begun))
    ∧ (∀ a, axisArg b = some a →
      exec (.axisStatus h b) s = .next (replied h 0x0D (done (axisStatus s.begun a)) s.begun))
    ∧ (∀ n, slotArg b = some n → (s.slot n).record = none →
      exec (.frameHeader h b) s = .next (replied h 0x16 (refuse .slotFree) s.begun))
    ∧ (∀ n r, slotArg b = some n → (s.slot n).record = some r → (s.slot n).state ≠ .free →
      ∃ bytes, exec (.frameHeader h b) s = .next (replied h 0x16 (done bytes) s.begun)
        ∧ bytes.take 33 = oneByte (slotCode (s.slot n).state) ++ frameRecordBytes s n r)
    ∧ exec (.readCellView h) s = .next (replied h 0x07 (done (cellStatus s.begun)) s.begun)
    ∧ exec (.storeStatus h) s = .next (replied h 0x17 (done (storeStatusBytes s.begun)) s.begun)
    ∧ (∀ n, exec (.readMissed h n) s
        = .next (replied h 0x18 (done (missedStatus n.toNat s.begun)) s.begun))

/-- R173: a reply is 1 to 16 parts, numbered from 0, of at most 18 bytes each; together they spell the
first 288 bytes of the results; the last part alone is marked last, and it alone shows a truncation. -/
def Obligations.ReplyPartsSpellTheResults : Prop :=
  ∀ (h : CmdHead) (code : Byte) (a : Answer) (flags : BitVec 4),
    let ps := replyParts h code a flags
    1 ≤ ps.length ∧ ps.length ≤ 16
      ∧ ps.flatMap (fun r => r.results) = a.results.take 288
      ∧ (∀ r ∈ ps, r.results.length ≤ 18 ∧ r.target = h.sender ∧ r.tag = h.tag ∧ r.code = code
          ∧ r.status = a.status ∧ r.reason = a.reason ∧ r.flags = flags)
      ∧ ps.map (fun r => r.part) = List.range ps.length
      ∧ ps.map (fun r => r.lastPart) = List.replicate (ps.length - 1) false ++ [true]
      ∧ ps.map (fun r => r.truncated)
          = List.replicate (ps.length - 1) false ++ [decide (288 < a.results.length)]

/-- R164, R165, R166, R173, R179: replying touches the cell line interface and the command unit and nothing
else. A notice joins the queue behind those of lower kind and those of its own kind, and before those of
higher kind (kinds as section 9.1 numbers them). The parts join in order while there is a place or a REPORT to
displace, the youngest first, and stand in the queue in that order, behind the REPLYs that stood there; the
unit is READY again when the last has joined; else the rest waits behind the held REPLY with the unit
REPLYING; in MUTE all are discarded and counted. With places free for all, what stood there stays. Summary
flag i of a reply is set exactly where an event of selection i is latched. A CLAIM waits where a request is
queued, no claim is in flight, neither backoff nor settle runs and the line is not in MUTE. A place that comes
free goes to a waiting CLAIM, then to a wanted STANDING, then to the held REPLY, and the others go on waiting.
-/
def Obligations.ReplyJoinsAFreeQueue : Prop :=
  ∀ (h : CmdHead) (code : Byte) (a : Answer) (s : State),
    let t := replied h code a s
    let kind (x : TxItem) : Nat := match x.body with
      | .trigger _ _ _ => 0
      | .claim => 1
      | .standing _ => 2
      | .reply _ => 4
      | .report _ => 5
    let sorted (queue : List TxItem) : Prop := (queue.map kind).Pairwise (· ≤ ·)
    let asItems (rs : List Reply) : List TxItem := rs.map fun r => ⟨.reply r, false⟩
    { t with line := s.line, commands := s.commands } = s
    ∧ (∀ i, i < 4 → ((summaryFlags s).getLsbD i = true ↔ ∃ k e, k < 25 ∧ s.events[k]? = some e
        ∧ e.latched = true ∧ (s.img.item 12 i).testBit k = true))
    ∧ (∀ it queue, sorted queue → insertTx it queue
        = (queue.filter fun x => kind x ≤ kind it) ++ it :: queue.filter fun x => kind it < kind x)
    ∧ (∀ b, s.joinTx b = { s with line := { s.line with queue := insertTx ⟨b, false⟩ s.line.queue } })
    ∧ (s.claimReady = true ↔ s.muted = false ∧ s.claims.queue ≠ [] ∧ s.claims.inFlight = none
        ∧ s.claims.backoff = none ∧ s.claims.settle = none)
    ∧ (∀ front back : List TxItem, (∀ x ∈ back, kind x = 5 → x.sending = true) →
      (∀ r, dropYoungestReport (front ++ ⟨.report r, false⟩ :: back) = some (front ++ back))
        ∧ dropYoungestReport back = none)
    ∧ (s.muted = false → s.line.queue.length + (replyParts h code a (summaryFlags s)).length ≤ 16 →
      t.line.queue = (s.line.queue.takeWhile fun x => kind x ≤ 4)
          ++ asItems (replyParts h code a (summaryFlags s))
          ++ (s.line.queue.dropWhile fun x => kind x ≤ 4) ∧
      t.commands.unit = .ready ∧ t.commands.parts = [] ∧ t.line.held = s.line.held
      ∧ (∀ r ∈ replyParts h code a (summaryFlags s), ⟨.reply r, false⟩ ∈ t.line.queue)
      ∧ (∀ x ∈ s.line.queue, x ∈ t.line.queue)
      ∧ t.line.queue.length
          = s.line.queue.length + (replyParts h code a (summaryFlags s)).length)
    ∧ (let ps := replyParts h code a (summaryFlags s)
      (s.muted = true → t.line.queue = s.line.queue ∧ t.line.held = s.line.held
        ∧ t.commands.unit = .ready ∧ t.commands.parts = []
        ∧ (s.line.counters.repliesNotSent + ps.length ≤ 65535 →
            t.line.counters.repliesNotSent = s.line.counters.repliesNotSent + ps.length))
      ∧ (s.muted = false → ∃ k, k ≤ ps.length
        ∧ (∀ r ∈ ps.take k, ⟨.reply r, false⟩ ∈ t.line.queue) ∧ t.commands.parts = ps.drop k
        ∧ (asItems (ps.take k)).Sublist t.line.queue
        ∧ (sorted s.line.queue → sorted t.line.queue
          ∧ (t.line.queue.filter fun x => kind x == 4)
              = (s.line.queue.filter fun x => kind x == 4) ++ asItems (ps.take k))
        ∧ t.commands.unit = (if k < ps.length then .replying else .ready)
        ∧ t.line.held = (if k < ps.length ∧ s.line.held = none then some .part else s.line.held)
        ∧ (k < ps.length →
            16 ≤ t.line.queue.length ∧ dropYoungestReport t.line.queue = none))
      ∧ (∀ r q, s.muted = false → ps = [r] → 16 ≤ s.line.queue.length →
          dropYoungestReport s.line.queue = some q → t.commands.unit = .ready
            ∧ t.line = { s.line with
                queue := insertTx ⟨.reply r, false⟩ q
                counters := { s.line.counters with
                  reportsNotSent := holdInc 65535 s.line.counters.reportsNotSent } }))
    ∧ (s.muted = false → s.line.queue.length = 15 → s.commands.buffer = [] →
      s.standingQueued = false →
      let f := fillPlaces s
      let took (b : TxBody) : Prop := f.line.queue = insertTx ⟨b, false⟩ s.line.queue
      (s.claimReady = true → took .claim ∧ f.claims.inFlight.isSome = true
        ∧ f.claims.queue = s.claims.queue.drop 1
        ∧ f.claims.standingWanted = s.claims.standingWanted ∧ f.line.held = s.line.held
        ∧ f.commands = s.commands)
      ∧ (s.claimReady = false → s.claims.standingWanted = true → took (.standing none)
        ∧ f.claims = { s.claims with standingWanted := false } ∧ f.line.held = s.line.held
        ∧ f.commands = s.commands)
      ∧ (s.claimReady = false → s.claims.standingWanted = false → f.claims = s.claims
        ∧ (s.line.held = none → f = s)
        ∧ (∀ r, s.line.held = some .part → s.commands.parts = [r] → took (.reply r)
          ∧ f.line.held = none ∧ f.commands.parts = []
          ∧ (s.commands.unit = .replying → f.commands.unit = .ready))
        ∧ (∀ r rest, s.line.held = some .part → s.commands.parts = r :: rest → rest ≠ [] →
            dropYoungestReport s.line.queue = none → took (.reply r)
          ∧ f.line.held = some .part ∧ f.commands = { s.commands with parts := rest })
        ∧ (∀ r, s.line.held = some (.overflow r) → s.commands.parts = [] → took (.reply r)
          ∧ f.line.held = none ∧ f.commands = s.commands)))

/-- R174, R184: RESTART is answered DONE in one part and the unit waits RESTARTING; a reply lost to MUTE, or
to a full queue with the held place taken, starts the hub in that event. Else the start takes place as the
attempt of that REPLY ends: every switch opens, the newer stored image comes into force, and the command
unit starts anew. -/
def Obligations.RestartStartsAfterItsReply : Prop :=
  (∀ (h : CmdHead) (s : State), s.takes h = true →
    let u := s.begun.modCommands fun c => { c with unit := .restarting }
    let r : Reply := ⟨h.sender, h.tag, 0x1F, .done, .none, summaryFlags s, 0, true, false, []⟩
    (s.muted = false → s.line.queue.length < 16 →
      exec (.restart h) s = .next (u.joinTx (.reply r)))
    ∧ (s.muted = true → exec (.restart h) s = .next (startHub .restart u.countReplyLost))
    ∧ (s.muted = false → 16 ≤ s.line.queue.length → dropYoungestReport s.line.queue = none →
        s.line.held ≠ none → exec (.restart h) s = .next (startHub .restart u.countReplyLost)))
  ∧ (∀ (heard flaw hold : Bool) (s : State) (it : TxItem) (r : Reply), s.supplied = true →
    s.line.tx = .attempt → s.sendingItem = some it → it.body = .reply r →
    isRestartReply r = true → s.commands.unit = .restarting → s.store.inFlight = none →
    ∃ t, exec (.attemptEnd heard flaw hold) s = .next t
      ∧ (∀ p, (t.port p).power.state = .off ∧ (t.port p).power.closed = false)
      ∧ t.station = stationOf s.straps ∧ t.commands = startCommands ∧ t.hubTime = s.hubTime
      ∧ t.store.inForce = (match s.nv.image.newest ImageCopy.generation with
          | some c => c.items
          | none => defaultImage))

/-! ### The port power unit and the claim unit -/

/-- R2: the camera figure of a port is a multiple of 50 mA from 50 to 1,500 mA, whatever the image holds;
a configured value that is one is taken as it is, and another between is rounded up. -/
def Obligations.FigureIsAMultipleOfFifty : Prop :=
  ∀ (img : ConfigImage) (p : Port), 50 ∣ img.figure p ∧ 50 ≤ img.figure p ∧ img.figure p ≤ 1500
    ∧ (50 ≤ img.item 17 p.val → img.item 17 p.val ≤ 1500 →
        img.item 17 p.val ≤ img.figure p ∧ img.figure p < img.item 17 p.val + 50)

/-- R4, R6: PORT_POWER_ON is refused for the first check that fails, in order: not enabled, locked out, in
a dark batch. Else it makes an OFF port CLAIMING and gives its request to the claim unit; on a CLAIMING or
powered port it changes nothing. PORT_POWER_OFF on an OFF port changes nothing; a CLAIMING port becomes OFF
and its queued request is withdrawn; a powered port is powered off with no lockout set. -/
def Obligations.PortPowerCommandsByState : Prop :=
  ∀ (h : CmdHead) (b : Byte) (p : Port) (s : State), s.takes h = true → portArg b = some p →
    let st := (s.port p).power.state
    let no (r : Reason) : Host.Outcome State Fault Refusal := .next (replied h 0x01 (refuse r) s.begun)
    let locked := (s.port p).power.volatileLock || (s.port p).power.retainedLock
    (s.img.enabled p = false → exec (.portPowerOn h b) s = no .portDisabled)
    ∧ (s.img.enabled p = true → locked = true → exec (.portPowerOn h b) s = no .lockedOut)
    ∧ (s.img.enabled p = true → locked = false → s.entry? p .dark ≠ none →
        exec (.portPowerOn h b) s = no .sweepPending)
    ∧ (s.img.enabled p = true → locked = false → s.entry? p .dark = none →
      (st = .off →
        exec (.portPowerOn h b) s = .next (replied h 0x01 (accepted [])
          (tryClaim (joinClaims ⟨p, .powerOn, 0⟩
            (s.begun.modPower p fun q => { q with state := .claiming })))))
      ∧ (st = .claiming →
        exec (.portPowerOn h b) s = .next (replied h 0x01 (accepted []) s.begun))
      ∧ (st.powered = true →
        exec (.portPowerOn h b) s = .next (replied h 0x01 (done []) s.begun)))
    ∧ (st = .off → exec (.portPowerOff h b) s = .next (replied h 0x02 (done []) s.begun))
    ∧ (st = .claiming → exec (.portPowerOff h b) s = .next (replied h 0x02 (done [])
        (dropRequest p false (s.begun.modPower p fun q => { q with state := .off }))))
    ∧ (st.powered = true → exec (.portPowerOff h b) s = .next (replied h 0x02 (done [])
        (engineTake (powerOff p false s.begun))))

/-- R24, R25, R26: a request joins the claim queue at its tail, from which a withdrawn one of the same port
goes (log 36). A request whose conditions all hold leaves the queue and becomes the claim in flight: it asks
for the granted standing, the port's figure and, unless reserve is held, the lens reserve, with the port's
surcharge as its surge; a correction asks for the increase and no surge. A request whose port has left the
state it was made for (R29), which MUTE has put back (R164), is composed as any other and marked as
withdrawn (the model's reading, log 36). -/
def Obligations.ClaimAsksForTheWholeStanding : Prop :=
  (∀ (q : ClaimReq) (s : State), joinClaims q s = { s with claims := { s.claims with
      queue := (s.claims.queue.filter fun x => x.port != q.port) ++ [q] } })
  ∧ ∀ (q : ClaimReq) (rest : List ClaimReq) (s : State), s.claims.queue = q :: rest →
    s.claims.inFlight = none → s.claims.backoff = none → s.claims.settle = none →
    s.muted = false → s.line.queue.length < 16 →
    let t := tryClaim s
    t.claims.queue = rest ∧ t.claims.granted = s.claims.granted ∧ t.ports = s.ports
      ∧ t.line.queue = insertTx ⟨.claim, false⟩ s.line.queue
      ∧ ∃ c, t.claims.inFlight = some c ∧ c.req = q
        ∧ (c.withdrawn = true ↔ (s.port q.port).power.state
            ≠ (match q.kind with | .powerOn => .claiming | .correction _ => .on))
        ∧ (match q.kind with
            | .powerOn => c.standing = s.claims.granted + (s.port q.port).power.figure
                + (if s.claims.reserveHeld then 0 else s.img.lensReserve)
                ∧ c.surge = s.img.surcharge q.port
            | .correction f => c.standing = s.claims.granted + (f - (s.port q.port).power.figure)
                ∧ c.surge = 0)

/-- R11, R30, R48, R98, R101, R107, R134, R155: what a port power-off leaves: the port OFF, its switch open,
its runs and history empty, its axes OFFLINE, its link DARK, its exposure machine IDLE; the figure, the trip
count and the other lockout kept; the granted standing at the required standing, with a STANDING queued or
wanted; a queued CORRECTION of the port withdrawn; an exposure that ran in the missed records, with
PORT_NOT_UP; a slot FILLING for it READY as TRUNCATED; a running scan CANCELLED for the power-off; a LIVE
entry gone with the result CANCELLED; and no other port's power part changed. -/
def Obligations.PowerOffOpensTheSwitch : Prop :=
  ∀ (p : Port) (lock : Bool) (s : State),
    let t := powerOff p lock s
    let q := (t.port p).power
    let was := (s.port p).power
    q.state = .off ∧ q.closed = false ∧ q.history = [] ∧ q.overdraw = 0 ∧ q.undercurrent = 0
      ∧ q.inrushLeft = none ∧ q.correctionPending = false
      ∧ q.volatileLock = (was.volatileLock || lock) ∧ q.retainedLock = was.retainedLock
      ∧ q.figure = was.figure ∧ q.tripCount = was.tripCount ∧ q.clean = was.clean
      ∧ (t.port p).focus.state = .offline ∧ (t.port p).iris.state = .offline
      ∧ (∀ n, ((s.port p).axis n).state ≠ .offline → ((t.port p).axis n).allowance = 0)
      ∧ (t.port p).link = startLink ∧ (t.port p).exposure.state = .idle
      ∧ t.claims.granted = t.required
      ∧ t.claims.reserveHeld = (s.claims.reserveHeld && t.anyPowered)
      ∧ (t.standingQueued = true ∨ t.claims.standingWanted = true)
      ∧ (s.muted = false → s.line.queue.length < 15 → t.standingQueued = true)
      ∧ t.claims.queue = s.claims.queue.filter (fun q => !(q.port == p && q.kind != .powerOn))
      ∧ (∀ o, (s.port p).exposure.state ≠ .idle → (s.port p).exposure.origin = some o →
          (t.triggers.missed.getLast?).map (fun m => (m.port, m.origin, m.reason, m.time))
            = some (p, o, .portNotUp, s.hubTime))
      ∧ ((s.port p).exposure.state = .idle → t.triggers = s.triggers)
      ∧ (∀ n x, (s.port p).link.gate = .opened → s.fillingSlot p = some (n, x) →
          ((t.slot n).state = .ready ∧ n ∈ t.frames.outQueue
            ∨ (t.slot n).state = .sending ∧ t.outLink.send = some ⟨n, .record, 0, false⟩)
          ∧ ∃ y, (t.slot n).record = some y ∧ y.truncated = true ∧ y.pixels = x.pixels)
      ∧ ((s.port p).link.gate ≠ .opened → t.frames = s.frames)
      ∧ ((s.port p).scan.loader = .running → (t.port p).scan.loader = .cancelled
          ∧ (t.port p).scan.result.reason = some .powerOff
          ∧ (s.bounded = true →
              (t.events.getD 20 clearedEntry).detail = some (.scanDone (some .powerOff))
                ∧ (t.events.getD 20 clearedEntry).port = some p))
      ∧ ((s.port p).scan.loader ≠ .running → (t.port p).scan = (s.port p).scan)
      ∧ (s.entry? p .live ≠ none → t.entry? p .live = none
          ∧ (t.port p).sweep.kind = some .live ∧ (t.port p).sweep.cls = .cancelled
          ∧ (t.port p).sweep.time = s.hubTime)
      ∧ (s.entry? p .live = none →
          (t.port p).sweep = (s.port p).sweep ∧ t.locator = s.locator)
      ∧ (∀ o, o ≠ p → (t.port o).power = (s.port o).power)

/-- R17: SET_LOCKOUT sets the volatile lockout and answers DONE: a powered port is powered off with it, a
CLAIMING port's request is withdrawn and the port becomes OFF, in OFF only the lockout changes. No sweep
is requested, no trip counted and no event latched by the command itself. -/
def Obligations.SetLockoutByState : Prop :=
  ∀ (h : CmdHead) (b : Byte) (p : Port) (s : State), s.takes h = true → portArg b = some p →
    let t := s.begun.modPower p fun q => { q with volatileLock := true }
    ((s.port p).power.state = .off →
      exec (.setLockout h b) s = .next (replied h 0x03 (done []) t))
    ∧ ((s.port p).power.state = .claiming →
      exec (.setLockout h b) s = .next (replied h 0x03 (done [])
        (dropRequest p false (t.modPower p fun q => { q with state := .off }))))
    ∧ ((s.port p).power.state.powered = true →
      exec (.setLockout h b) s = .next (replied h 0x03 (done []) (engineTake (powerOff p true t))))

/-- R18: CLEAR_LOCKOUT: the volatile lockout is cleared; the retained lockout is cleared, with a pending
CLEAR record, where the cable has been measured clean since start; clear already it stays; else the
command is refused with NOT_CLEAN. The power state and the other lockout stay as they are. -/
def Obligations.ClearLockoutByKind : Prop :=
  ∀ (h : CmdHead) (b : Byte) (p : Port) (s : State), s.takes h = true → portArg b = some p →
    exec (.clearLockout h b 0) s = .next (replied h 0x04 (done [])
      (s.begun.modPower p fun q => { q with volatileLock := false }))
    ∧ ((s.port p).power.retainedLock = false →
      exec (.clearLockout h b 1) s = .next (replied h 0x04 (done []) s.begun))
    ∧ ((s.port p).power.retainedLock = true → (s.port p).power.clean = true →
      exec (.clearLockout h b 1) s = .next (replied h 0x04 (done [])
        (runStore (s.begun.modPower p fun q =>
          { q with retainedLock := false, pendingRecord := some .clear }))))
    ∧ ((s.port p).power.retainedLock = true → (s.port p).power.clean = false →
      exec (.clearLockout h b 1) s = .next (replied h 0x04 (refuse .notClean) s.begun))

/-- R39: FORGET_STATION removes the entry of another station, and refuses the hub's own number. -/
def Obligations.ForgetStationRemovesTheEntry : Prop :=
  ∀ (h : CmdHead) (b : Byte) (s : State), s.takes h = true → b.toNat < 15 →
    (b.toNat ≠ s.station →
      exec (.forgetStation h b) s = .next (replied h 0x06 (done [])
        { s.begun with view := s.view.filter fun e => e.station != b.toNat }))
    ∧ (b.toNat = s.station →
      exec (.forgetStation h b) s = .next (replied h 0x06 (refuse .badArgument) s.begun))

/-- R8, R10: a current sample becomes the latest sample and, on a powered port, joins the history of at most
20. It is supervised in ON alone: below 20 mA the undercurrent run counts, above figure × 5/4 the overdraw
run counts, and any other value below the trip level ends both. The twentieth overdraw sample in a row ends
its run and forms the correction figure, the greatest sample of the history rounded up to 50 mA, at most
1,500 mA: with a correction pending nothing follows; where it is the figure already, the port is shed at
once; else the correction is pending and its request joins the claim queue. -/
def Obligations.SampleIsRecordedAndSupervised : Prop :=
  ∀ (p : Port) (x : BitVec 16) (s : State), s.supplied = true →
    let w := (s.port p).power
    let t := s.fresh.modPower p fun q => q.record x.toNat
    let runs (lowRun highRun : Nat) : State :=
      t.modPower p fun q => { q with overdraw := highRun, undercurrent := lowRun }
    (w.state ≠ .on → exec (.currentSample p x) s = .next t)
    ∧ (w.state = .on → x.toNat < 20 → w.undercurrent < 99 →
        exec (.currentSample p x) s = .next (runs (w.undercurrent + 1) 0))
    ∧ (w.state = .on → 20 ≤ x.toNat → x.toNat < 2000 → w.figure * 5 < x.toNat * 4 →
        w.overdraw < 19 → exec (.currentSample p x) s = .next (runs 0 (w.overdraw + 1)))
    ∧ (w.state = .on → 20 ≤ x.toNat → x.toNat < 2000 → x.toNat * 4 ≤ w.figure * 5 →
        exec (.currentSample p x) s = .next (runs 0 0))
    ∧ (w.state = .on → 20 ≤ x.toNat → x.toNat < 2000 → w.figure * 5 < x.toNat * 4 →
        19 ≤ w.overdraw →
        let f := min 1500 (((w.record x.toNat).history.foldl max 0 + 49) / 50 * 50)
        let run := exec (.currentSample p x) s
        (w.correctionPending = true → run = .next (runs 0 0))
        ∧ (w.correctionPending = false → f ≠ w.figure →
            run = .next (tryClaim (joinClaims ⟨p, .correction f, 0⟩
              ((runs 0 0).modPower p fun q => { q with correctionPending := true }))))
        ∧ (w.correctionPending = false → f = w.figure → s.bounded = true → ∃ u, run = .next u
            ∧ (u.port p).power.state = .off ∧ (u.port p).power.closed = false
            ∧ (u.port p).power.volatileLock = w.volatileLock
            ∧ (u.port p).power.figure = w.figure ∧ (u.port p).power.tripCount = w.tripCount
            ∧ (u.events.getD 2 clearedEntry).detail = some (.figure f)
            ∧ (u.events.getD 2 clearedEntry).port = some p ∧ u.claims.granted = u.required
            ∧ ∀ o, o ≠ p → (u.port o).power = (s.port o).power))
    ∧ (∀ q : PowerPart, q.history.length ≤ 20 → (q.record x.toNat).latest = x.toNat
        ∧ (q.record x.toNat).history.length ≤ 20
        ∧ (q.state.powered = true → (q.record x.toNat).history.getLast? = some x.toNat))

/-- R8, R9, R12: a sample at or above 2,000 mA in ON, and the hundredth sample running below 20 mA, take the
port down with the volatile lockout, latch PORT_TRIPPED with the sample or OPEN_SUSPECT, and ask for a
DARK sweep; only the first counts a trip. -/
def Obligations.TripTakesThePortDown : Prop :=
  ∀ (p : Port) (x : BitVec 16) (s : State), s.supplied = true → s.bounded = true →
    (s.port p).power.state = .on →
    let down (t : State) (k trips : Nat) (d : Detail) : Prop :=
      (t.port p).power.state = .off ∧ (t.port p).power.closed = false
        ∧ (t.port p).power.volatileLock = true ∧ (t.port p).power.tripCount = trips
        ∧ (t.entry? p .dark).isSome = true
        ∧ (t.events.getD k clearedEntry).latched = true
        ∧ (t.events.getD k clearedEntry).port = some p
        ∧ (t.events.getD k clearedEntry).detail = some d
    (2000 ≤ x.toNat → ∃ t, exec (.currentSample p x) s = .next t
      ∧ down t 0 (holdInc 65535 (s.port p).power.tripCount) (.tripSample x.toNat))
    ∧ (x.toNat < 20 → 99 ≤ (s.port p).power.undercurrent →
      ∃ t, exec (.currentSample p x) s = .next t
        ∧ down t 1 (s.port p).power.tripCount .nothing)

/-- R7, R45: at the end of the inrush period a port whose limiter is released enters ON, with both runs at
0 and its link TRAINING; with the limiter still active it trips with the detail INRUSH. A port that is
not in INRUSH is left alone. -/
def Obligations.InrushEndsInOnOrATrip : Prop :=
  ∀ (p : Port) (s : State), s.supplied = true → s.bounded = true →
    ((s.port p).power.state = .inrush →
      (∃ t, exec (.inrushEnd p false) s = .next t ∧ (t.port p).power.state = .on
        ∧ (t.port p).power.closed = (s.port p).power.closed
        ∧ (t.port p).power.inrushLeft = none ∧ (t.port p).power.overdraw = 0
        ∧ (t.port p).power.undercurrent = 0 ∧ (t.port p).link.state = .training
        ∧ (t.port p).link.trainUsed = 0 ∧ t.claims = s.claims)
      ∧ (∃ t, exec (.inrushEnd p true) s = .next t ∧ (t.port p).power.state = .off
        ∧ (t.port p).power.volatileLock = true
        ∧ (t.port p).power.tripCount = holdInc 65535 (s.port p).power.tripCount
        ∧ (t.events.getD 0 clearedEntry).detail = some .tripInrush))
    ∧ ((s.port p).power.state ≠ .inrush →
        ∀ limiter, exec (.inrushEnd p limiter) s = .next s.fresh)

/-- R3, R10, R27, R29, R31: the end of the own CLAIM with neither HOLD nor FLAW grants it: the granted
standing is the claim's, lowered at once to what the powered ports require, and the own entry takes the
claim. A POWER_ON whose port is still CLAIMING closes its switch, the port enters INRUSH for 50 ms and
reserve is held; a CORRECTION whose port is still ON raises its figure and is pending no longer. The grant
of a request whose port has left the state it was made for leaves every port as it is, and so does that of a
request that was withdrawn, even where its port is CLAIMING again (the model's reading, log 36). -/
def Obligations.GrantClosesTheSwitch : Prop :=
  ∀ (heard : Bool) (s : State) (it : TxItem) (c : ClaimInFlight), s.supplied = true →
    s.line.tx = .attempt → s.sendingItem = some it → it.body = .claim →
    s.claims.inFlight = some c → s.commands.buffer = [] →
    let p := c.req.port
    let w := (s.port p).power
    ∃ t, exec (.attemptEnd heard false false) s = .next t
      ∧ t.claims.granted = min c.standing t.required
      ∧ (∀ o, o ≠ p → (t.port o).power = (s.port o).power)
      ∧ (c.withdrawn = false → c.req.kind = .powerOn → w.state = .claiming →
          (t.port p).power = { w with
              state := .inrush, closed := true, inrushLeft := some 50000 }
            ∧ t.claims.reserveHeld = true)
      ∧ (∀ f, c.withdrawn = false → c.req.kind = .correction f → w.state = .on →
          (t.port p).power = { w with figure := f, correctionPending := false })
      ∧ (c.withdrawn = true ∨ c.req.kind = .powerOn ∧ w.state ≠ .claiming
            ∨ c.req.kind ≠ .powerOn ∧ w.state ≠ .on →
          (t.port p).power = w)
      ∧ findEntry s.station t.view
          = some ⟨s.station, c.standing,
              if c.surge = 0 then none else some ⟨c.surge, s.hubTime + 100000⟩, s.hubTime, false⟩

/-- R28, R29: an objected claim starts a backoff of 100 ms and 20 ms for each unit of the station number. A
POWER_ON goes back to the head with its count increased; its eighth objection makes the port OFF with
POWER_DENIED; an objected CORRECTION sheds its port. A request whose port has left the state it was made for
is dropped, with no event and no port changed, and so is one that was withdrawn, even where its port is
CLAIMING again (the model's reading, log 36). -/
def Obligations.ObjectionBacksOff : Prop :=
  ∀ (heard flaw hold : Bool) (s : State) (it : TxItem) (c : ClaimInFlight), s.supplied = true →
    s.bounded = true → s.line.tx = .attempt → s.sendingItem = some it → it.body = .claim →
    s.claims.inFlight = some c → (flaw || hold) = true → s.commands.buffer = [] →
    ∃ t, exec (.attemptEnd heard flaw hold) s = .next t
      ∧ t.claims.backoff = some ((100 + 20 * s.station) * 1000) ∧ t.claims.inFlight = none
      ∧ (c.withdrawn = false → c.req.kind = .powerOn →
          (s.port c.req.port).power.state = .claiming → c.req.attempts < 7 →
          (t.port c.req.port).power = (s.port c.req.port).power
            ∧ t.claims.queue = { c.req with attempts := c.req.attempts + 1 } :: s.claims.queue
            ∧ t.claims.granted = s.claims.granted)
      ∧ (c.withdrawn = false → c.req.kind = .powerOn →
          (s.port c.req.port).power.state = .claiming → 7 ≤ c.req.attempts →
          (t.port c.req.port).power.state = .off ∧ t.claims.queue = s.claims.queue
            ∧ (t.events.getD 3 clearedEntry).detail = some .attempts
            ∧ (t.events.getD 3 clearedEntry).port = some c.req.port)
      ∧ (c.withdrawn = true
            ∨ c.req.kind = .powerOn ∧ (s.port c.req.port).power.state ≠ .claiming
            ∨ c.req.kind ≠ .powerOn ∧ (s.port c.req.port).power.state ≠ .on →
          (∀ p, (t.port p).power = (s.port p).power) ∧ t.claims.queue = s.claims.queue
            ∧ t.claims.granted = s.claims.granted ∧ t.events = s.events)
      ∧ (∀ f, c.withdrawn = false → c.req.kind = .correction f →
          (s.port c.req.port).power.state = .on →
          (t.port c.req.port).power.state = .off
            ∧ (t.port c.req.port).power.closed = false
            ∧ (t.port c.req.port).power.figure = (s.port c.req.port).power.figure
            ∧ (t.events.getD 2 clearedEntry).detail = some (.figure f))

/-- R3: no command and no event closes a port's switch but the end of the own CLAIM, granted, while its
port is CLAIMING. That the request of that claim has not been withdrawn is the model's reading (log 36). -/
def Obligations.OnlyAGrantClosesASwitch : Prop :=
  ∀ (i : Instr) (s t : State) (p : Port), exec i s = .next t →
    (s.port p).power.closed = false → (t.port p).power.closed = true →
    ∃ heard c, i = .attemptEnd heard false false ∧ s.claims.inFlight = some c ∧ c.req.port = p
      ∧ c.withdrawn = false ∧ c.req.kind = .powerOn ∧ (s.port p).power.state = .claiming

/-- R25, R28, R32, R33, R38, R40: the ends of settle and of backoff let the head of the claim queue be
taken; the refresh timer starts again from 500 ms and queues a STANDING, unless one waits already or the
line is MUTE; a surge whose expiry is reached lapses; an entry not heard for 1,500 ms becomes STALE, the own
entry never, and standing and other entries stay. -/
def Obligations.CellTimersRunOut : Prop :=
  ∀ s : State, s.supplied = true →
    exec .settleEnd s
      = .next (tryClaim { s.fresh with claims := { s.claims with settle := none } })
    ∧ exec .backoffExpiry s
      = .next (tryClaim { s.fresh with claims := { s.claims with backoff := none } })
    ∧ (let t : State := { s.fresh with claims := { s.claims with refreshLeft := 500000 } }
      (s.muted = true ∨ s.standingQueued = true → exec .refreshExpiry s = .next t)
      ∧ (s.muted = false → s.standingQueued = false → s.line.queue.length < 15 →
          exec .refreshExpiry s = .next (t.joinTx (.standing none))))
    ∧ (∀ n : BitVec 4, exec (.surgeExpiry n) s = .next { s.fresh with view := s.view.map fun e =>
        if e.station = n.toNat then { e with surge := none } else e })
    ∧ (∀ n : BitVec 4, exec (.entryStale n) s = .next { s.fresh with view := s.view.map fun e =>
        if e.station = n.toNat ∧ e.station ≠ s.station then { e with stale := true } else e })

/-! ### The notices and their bits -/

/-- 12.2: the code and the argument bytes of a command of the catalogue parse to that command, with every
argument at every value. -/
def Obligations.CommandCodesParse : Prop :=
  ∀ c : Cmd, (∀ code args, c ≠ .malformed code args) → Cmd.parse c.code c.args = c

/-- R158: the sender never leaves a run of six bits of one level between the start bit and the end of the
CRC, whatever the payload holds. -/
def Obligations.StuffingLimitsRuns : Prop := ∀ n : WireNotice, noRunOfSix n.lineBits

/-- R158, R167: a receiver reads from the line bits of a notice exactly that notice: kind, sender, target
and every byte of the payload. -/
def Obligations.LineBitsReadBack : Prop :=
  ∀ n : WireNotice, n.sendable = true → readLine n.lineBits = some n

/-! ### The cell line interface -/

/-- R30, R89, R160 to R163, R185: in READY, with the queue not empty and the idle count at 11, an attempt puts
the head of the queue on the line with its contents fixed then: a TRIGGER one after its line's last number, a
STANDING with the granted standing; else none begins. The notice has the hub's number, the kind, the target
and the payload that sections 12.1 and 12.2 give. An attempt that is abandoned leaves every notice in the
queue, in its place and waiting, but for a STANDING beside a newer one that waits, which leaves it (the
model's choice, log 10); a loss is counted and is no failure, and the hub receives the notice that won; a
failure is counted and lengthens the run. Whatever its trailer, the own entry takes the value of a STANDING
whose attempt ends. The notice whose attempt ends leaves the queue, the run of failures ends, and the freed
place is given; the end of a REPLY (RESTART's apart) and of a REPORT does nothing else. At the end of a
STANDING every notice that waits stays, but for a REPORT that a held reply's next part displaces (R166, R173).
With no attempt on the line the three rows of an attempt's outcome do nothing. (CLAIM and TRIGGER:
GrantClosesTheSwitch, ObjectionBacksOff, TriggersReachTheirPorts.) That the idle count is 0 after a loss, a
failure and an end is the model's reading (log 40), and that the end of an own TRIGGER, REPLY or REPORT leaves
the own entry's last heard time its choice (log 39), as is the target 15 of a STANDING (log 50). -/
def Obligations.AttemptsGoOnTheLine : Prop :=
  ∀ s : State, s.supplied = true →
    let spelt (b : TxBody) (n : WireNotice) : Prop :=
      n.sender = BitVec.ofNat 4 s.station ∧ match b with
        | .trigger _ line q => n.kind = 0 ∧ n.target = 15
            ∧ n.payload = [BitVec.ofNat 8 line, BitVec.ofNat 8 (q.getD 0)]
        | .claim => n.kind = 1 ∧ n.target = 15 ∧ ∀ c, s.claims.inFlight = some c →
            n.payload = beBytes 2 c.standing ++ beBytes 2 c.surge ++ beBytes 2 100
        | .standing v => n.kind = 2 ∧ n.target = 15 ∧ n.payload = beBytes 2 (v.getD 0)
        | .reply r => n.kind = 4 ∧ n.target = r.target
            ∧ n.payload = [r.tag, r.code,
                BitVec.ofNat 8 (64 * statusCode r.status + (if r.lastPart = true then 32 else 0)
                  + 2 * (r.part % 16) + (if r.truncated = true then 1 else 0)),
                BitVec.ofNat 8 (reasonCode r.reason), BitVec.ofNat 8 r.flags.toNat] ++ r.results
        | .report r => n.kind = 5 ∧ n.target = 15
            ∧ n.payload = [BitVec.ofNat 8 (r.event.index + 1)] ++ portByte r.port
                ++ padTo 6 (detailBytes r.detail) ++ beBytes 4 r.time ++ [BitVec.ofNat 8 r.count]
    (s.line.tx ≠ .ready ∨ s.line.queue = [] ∨ s.line.idle ≠ 11 →
      exec .attemptBegin s = .next s.fresh)
    ∧ (s.line.tx ≠ .attempt → exec .arbitrationLost s = .next s.fresh
        ∧ exec .transmitFailure s = .next s.fresh
        ∧ ∀ heard flaw hold, exec (.attemptEnd heard flaw hold) s = .next s.fresh)
    ∧ (∀ it rest, s.line.tx = .ready → s.line.queue = it :: rest → s.line.idle = 11 →
      let e := fun line : Nat => s.triggers.lines.getD line startLine
      ∃ b t, exec .attemptBegin s = .next t
        ∧ t.line = { s.line with
            tx := .attempt, idle := 0, receiving := false, queue := ⟨b, true⟩ :: rest }
        ∧ t.out = [.notice (wireNotice t b)] ∧ spelt b (wireNotice t b)
        ∧ (match it.body with
            | .trigger i line _ =>
              b = .trigger i line
                  (some (if (e line).valid = true then ((e line).last + 1) % 256 else 0))
                ∧ (t.sense i).pending = .sending
            | .standing _ => b = .standing (some s.claims.granted)
            | x => b = x)
        ∧ t.ports = s.ports ∧ t.claims = s.claims ∧ t.view = s.view ∧ t.frames = s.frames
        ∧ t.events = s.events ∧ t.commands = s.commands ∧ t.triggers.lines = s.triggers.lines)
    ∧ (∀ it, s.line.tx = .attempt → s.sendingItem = some it → spareStanding s it = false →
      let back (run : Nat) (hears : Bool) (c : LineCounters) (t : State) : Prop :=
        t.line = { s.line with
            tx := .ready, idle := 0, receiving := hears, failureRun := run, counters := c
            queue := s.line.queue.map fun x => { x with sending := false } }
          ∧ t.out = [.lineReleased]
          ∧ (∀ i line q, it.body = .trigger i line q → (t.sense i).pending = .queued)
          ∧ t.ports = s.ports ∧ t.claims = s.claims ∧ t.view = s.view ∧ t.frames = s.frames
          ∧ t.events = s.events ∧ t.commands = s.commands ∧ t.triggers.lines = s.triggers.lines
      let c := s.line.counters
      (∃ t, exec .arbitrationLost s = .next t
        ∧ back s.line.failureRun true { c with arbLosses := holdInc 65535 c.arbLosses } t)
      ∧ (s.line.failureRun < 31 → ∃ t, exec .transmitFailure s = .next t
        ∧ back (s.line.failureRun + 1) s.line.receiving
            { c with txFailures := holdInc 65535 c.txFailures } t))
    ∧ (∀ it, s.line.tx = .attempt → s.sendingItem = some it → spareStanding s it = true →
      let dropped (run : Nat) (hears : Bool) (c : LineCounters) : State :=
        { s with
          out := [.lineReleased]
          line := { s.line with
            tx := .ready, idle := 0, receiving := hears, failureRun := run, counters := c
            queue := s.line.queue.filter fun x => !x.sending } }
      let c := s.line.counters
      exec .arbitrationLost s = .next (fillPlaces (dropped s.line.failureRun true
          { c with arbLosses := holdInc 65535 c.arbLosses }))
        ∧ (s.line.failureRun < 31 → exec .transmitFailure s = .next (fillPlaces
          (dropped (s.line.failureRun + 1) s.line.receiving
            { c with txFailures := holdInc 65535 c.txFailures }))))
    ∧ (∀ it heard flaw hold, s.line.tx = .attempt → s.sendingItem = some it →
        let sent : State := { s.fresh with line := { s.line with
          tx := .ready, idle := 0, receiving := false, failureRun := 0
          queue := s.line.queue.filter fun x => !x.sending } }
        let run := exec (.attemptEnd heard flaw hold) s
        (∀ r, it.body = .report r → run = .next (grantPiece (fillPlaces sent)))
        ∧ (∀ r, it.body = .reply r → ¬(s.commands.unit = .restarting ∧ isRestartReply r = true) →
            run = .next (grantPiece (fillPlaces sent)))
        ∧ (((∃ r, it.body = .report r) ∨ ∃ r, it.body = .reply r ∧ isRestartReply r = false) →
            s.claimReady = false → s.claims.standingWanted = false → s.line.held = none →
            s.commands.buffer = [] → (∀ se, s.locator.engine ≠ .waitingGap se) →
            run = .next sent))
    ∧ (∀ it v heard flaw hold, s.line.tx = .attempt → s.sendingItem = some it →
        it.body = .standing (some v) → s.commands.buffer = [] →
        ∃ t, exec (.attemptEnd heard flaw hold) s = .next t
          ∧ t.line.tx = .ready ∧ t.line.failureRun = 0 ∧ t.line.idle = 0
          ∧ (∀ x ∈ s.line.queue, x.sending = false →
              (s.line.held = none ∨ ∀ r, x.body ≠ .report r) → x ∈ t.line.queue)
          ∧ findEntry s.station t.view = some ⟨s.station, v, none, s.hubTime, false⟩
          ∧ (∀ n, n ≠ s.station → findEntry n t.view = findEntry n s.view)
          ∧ (∀ p, (t.port p).power = (s.port p).power) ∧ t.claims.granted = s.claims.granted
          ∧ t.events = s.events ∧ t.frames = s.frames)

/-- R41, R89, R163, R164: the 32nd failure in a row brings MUTE for 1,000 ms: the queue is emptied, no
TRIGGER stays pending, a CLAIM returns to the head of the claim queue with its attempts and no backoff, a
withdrawn one too, but where a newer request of its port waits in the queue (at most one for each port, R24;
the model's reading, log 36), a STANDING is wanted, and the command unit is READY. A withdrawn TRIGGER is an
overrun of its input, counted, with SENSE_OVERRUN latched. Every REPLY in the queue, held or still to be
offered, and every REPORT in the queue or built for such an overrun, is counted as not sent. At its end the
STANDING joins and the refresh timer starts again. -/
def Obligations.MuteEmptiesTheQueue : Prop :=
  ∀ s : State, s.supplied = true →
    (∀ it, s.line.tx = .attempt → s.sendingItem = some it → spareStanding s it = false →
      31 ≤ s.line.failureRun → s.commands.unit ≠ .restarting → s.commands.buffer = [] →
      ∃ t, exec .transmitFailure s = .next t
        ∧ t.line.tx = .mute 1000000 ∧ t.line.queue = [] ∧ t.line.held = none
        ∧ t.line.counters.mutes = holdInc 65535 s.line.counters.mutes
        ∧ t.commands.unit = .ready ∧ t.commands.parts = []
        ∧ (∀ x i line q, x ∈ s.line.queue → x.body = .trigger i line q →
            (t.sense i).pending = .absent)
        ∧ (∀ x c, x ∈ s.line.queue → x.body = .claim → s.claims.inFlight = some c →
            t.claims.inFlight = none ∧ t.claims.queue
              = (if c.withdrawn = true ∧ (∃ q ∈ s.claims.queue, q.port = c.req.port) then s.claims.queue
                  else c.req :: s.claims.queue))
        ∧ (∀ x v, x ∈ s.line.queue → x.body = .standing v → t.claims.standingWanted = true)
        ∧ (let ofInput (i : Fin 2) (x : TxItem) : Bool := match x.body with
              | .trigger j _ _ => j == i
              | _ => false
          let triggers := s.line.queue.countP fun x => ofInput 0 x || ofInput 1 x
          let replies := s.line.queue.countP fun x => match x.body with | .reply _ => true | _ => false
          let reports := s.line.queue.countP fun x => match x.body with | .report _ => true | _ => false
          let c := s.line.counters
          (∀ i, (s.sense i).overrun ≤ 65535 →
              (t.sense i).overrun = min 65535 ((s.sense i).overrun + s.line.queue.countP (ofInput i)))
            ∧ (s.bounded = true → 0 < triggers →
                let e := t.events.getD 11 clearedEntry
                e.latched = true ∧ e.port = none ∧ e.time = s.hubTime
                  ∧ ∃ i, (∃ x ∈ s.line.queue, ofInput i x = true) ∧ e.detail = some (.overrun i .mute))
            ∧ (s.bounded = true → (s.events.getD 11 clearedEntry).count ≤ 255 →
                (t.events.getD 11 clearedEntry).count
                  = min 255 ((s.events.getD 11 clearedEntry).count + triggers))
            ∧ (∀ k, k ≠ 11 → t.events.getD k clearedEntry = s.events.getD k clearedEntry)
            ∧ (c.repliesNotSent ≤ 65535 → t.line.counters.repliesNotSent = min 65535
                (c.repliesNotSent + replies + s.commands.parts.length
                  + match s.line.held with | some (.overflow _) => 1 | _ => 0))
            ∧ (c.reportsNotSent ≤ 65535 → t.line.counters.reportsNotSent = min 65535
                (c.reportsNotSent + reports
                  + if (s.img.item 10 0).testBit 11 = true then triggers else 0)))
        ∧ t.claims.granted = s.claims.granted ∧ t.claims.backoff = s.claims.backoff
        ∧ t.ports = s.ports ∧ t.view = s.view ∧ t.frames = s.frames ∧ t.store = s.store)
    ∧ (∀ left, s.line.tx = .mute left → ∃ t, exec .muteEnd s = .next t
        ∧ t.line.tx = .ready ∧ t.line.failureRun = 0 ∧ t.claims.refreshLeft = 500000
        ∧ (s.line.queue = [] → ⟨.standing none, false⟩ ∈ t.line.queue
            ∧ t.claims.standingWanted = false)
        ∧ t.claims.granted = s.claims.granted ∧ t.ports = s.ports ∧ t.view = s.view
        ∧ t.commands = s.commands ∧ t.events = s.events)

/-- R33, R34, R35, R36, R38, R159, R161, R163, R167, R168: a hub receives a notice that began on a line free for
11 bit times or that it follows from its start bit, and no other: the bits of others, and driven bits in the
end delimiter or after it, restart its idle count and change nothing else. A peer's CLAIM is objected where
the others' standings and unexpired surges with its own exceed the budget, and recorded only where the
combined trailer shows neither HOLD nor FLAW; one of the hub's own number is neither judged nor recorded. In
the trailer of a notice without error the hub drives HEARD, and HOLD exactly where it objects, and its
sender is heard: the sender's entry, if it has one, is last heard now and PRESENT, and no entry is made; a
notice of the hub's own number is counted, and no entry is written. A notice with an error, a sender field
of 15 or a payload of more than 24 bytes among them, is handed to no block and is answered with FLAW alone,
if it reaches its trailer. When a hub receives, and the idle count that each notice leaves, are the model's
reading (log 40), and so is that a surge counts below its expiry time (log 39). -/
def Obligations.PeerNoticesAreJudged : Prop :=
  ∀ (sender target : BitVec 4) (s : State), s.supplied = true →
    (s.line.idle ≠ 11 → s.line.receiving = false →
      let unheard (idle : Nat) : Host.Outcome State Fault Refusal := .next { s with
        out := []
        line := { s.line with idle := if s.line.tx = .attempt then s.line.idle else idle } }
      (∀ a b c f g, exec (.claimReceived sender target a b c f g) s = unheard 0)
      ∧ (∀ a b, exec (.triggerReceived sender target a b) s = unheard 0)
      ∧ (∀ a, exec (.standingReceived sender target a) s = unheard 0)
      ∧ (∀ a, exec (.otherNoticeReceived sender target a) s = unheard 0)
      ∧ (∀ a, exec (.commandReceived sender target a) s = unheard 0)
      ∧ (∀ e reaches, (∀ how, e ≠ .brokeOff how) → exec (.receiveError e reaches) s = unheard 0)
      ∧ (∀ how reaches, exec (.receiveError (.brokeOff how) reaches) s = unheard (match how with
          | .silence => 11
          | .lineCode true => 6
          | _ => 0)))
    ∧ (s.line.idle = 11 ∨ s.line.receiving = true →
    let own : Prop := sender.toNat = s.station
    let heard (hold : Bool) : State := { s with
      out := [.trailer true false hold]
      line := { s.line with
        idle := 0
        receiving := false
        counters := if own then { s.line.counters with
            sameNumber := min 65535 (s.line.counters.sameNumber + 1) }
          else s.line.counters }
      view := if own then s.view else s.view.map fun e =>
        if e.station = sender.toNat then { e with lastHeard := s.hubTime, stale := false } else e }
    let faulty (idle : Nat) (follows : Bool) (out : List Out) :
        Host.Outcome State Fault Refusal := .next { s with
      out := out
      line := { s.line with
        idle := idle
        receiving := follows
        counters := { s.line.counters with
          rxErrors := holdInc 65535 s.line.counters.rxErrors } } }
    let flaw : Host.Outcome State Fault Refusal := faulty 0 false [.trailer false true false]
    (∀ hold, hearNotice sender hold s.fresh = heard hold)
    ∧ (∀ (standing surge lifetime : BitVec 16) (peerFlaw peerHold : Bool), sender ≠ 15 →
      let counted (e : CellEntry) : Nat := e.standing + match e.surge with
        | some g => if s.hubTime < g.expiry then g.amount else 0
        | none => 0
      let total : Nat := ((s.view.filter fun e => e.station != sender.toNat).map counted).sum
        + standing.toNat + surge.toNat
      let objected : Bool := decide (¬own ∧ s.img.cellBudget < total)
      let u := heard objected
      let e : CellEntry := ⟨sender.toNat, standing.toNat,
        if surge = 0 ∨ lifetime = 0 then none
          else some ⟨surge.toNat, s.hubTime + lifetime.toNat * 1000⟩, s.hubTime, false⟩
      let run := exec (.claimReceived sender target standing surge lifetime peerFlaw peerHold) s
      u.out = [.trailer true false objected]
        ∧ (own ∨ (objected || peerFlaw || peerHold) = true → run = .next u)
        ∧ (¬own → (objected || peerFlaw || peerHold) = false → ∃ t, run = .next t
            ∧ findEntry sender.toNat t.view = some e
            ∧ (∀ n, n ≠ sender.toNat → findEntry n t.view = findEntry n s.view)
            ∧ { t with view := u.view } = u))
    ∧ (∀ kind : BitVec 3, sender ≠ 15 →
        (heard false).out = [.trailer true false false]
        ∧ (kind.toNat < 6 →
          exec (.otherNoticeReceived sender target kind) s = .next (heard false))
        ∧ (6 ≤ kind.toNat →
          exec (.otherNoticeReceived sender target kind) s
            = .next ((heard false).modCounters fun c =>
                { c with undefinedKinds := holdInc 65535 c.undefinedKinds })))
    ∧ (sender = 15 →
        (∀ a b c f g, exec (.claimReceived sender target a b c f g) s = flaw)
        ∧ (∀ a b, exec (.triggerReceived sender target a b) s = flaw)
        ∧ (∀ a, exec (.standingReceived sender target a) s = flaw)
        ∧ (∀ a, exec (.otherNoticeReceived sender target a) s = flaw))
    ∧ (∀ payload : List Byte, sender = 15 ∨ 24 < payload.length →
        exec (.commandReceived sender target payload) s = flaw)
    ∧ (∀ error : RxError, (∀ how, error ≠ .brokeOff how) →
        exec (.receiveError error true) s = flaw
          ∧ exec (.receiveError error false) s = faulty 0 false [])
    ∧ (∀ (how : LineBreak) (reaches : Bool),
        exec (.receiveError (.brokeOff how) reaches) s = faulty (match how with
          | .silence => 11
          | .lineCode true => 6
          | _ => 0) (how == .startBit) []))

/-- R37, R176, R177: a STANDING of another station replaces its entry, or makes one, with no surge, heard
and PRESENT, whatever its trailer; above the budget CELL_OVER is latched with the view total and no port,
its REPORT joins the transmit queue where it is reported, or is counted where the queue has no place for it
or the line is MUTE, and nothing else is done: no switch opens and no claim changes. One received with an
error changes no entry and is answered with FLAW. When a hub receives is the model's reading (log 40), and
so is that the places waited for are not free for a REPORT (log 11). -/
def Obligations.PeerStandingIsRecorded : Prop :=
  ∀ (sender target : BitVec 4) (standing : BitVec 16) (s : State), s.supplied = true →
    sender ≠ 15 → sender.toNat ≠ s.station → s.line.idle = 11 ∨ s.line.receiving = true →
    (∃ t, exec (.standingReceived sender target standing) s = .next t
      ∧ findEntry sender.toNat t.view
          = some ⟨sender.toNat, standing.toNat, none, s.hubTime, false⟩
      ∧ (∀ n, n ≠ sender.toNat → findEntry n t.view = findEntry n s.view)
      ∧ (let total := viewTotal s.hubTime t.view
        (total ≤ s.img.cellBudget → t.events = s.events ∧ t.line.queue = s.line.queue)
        ∧ (s.img.cellBudget < total →
          let n := holdInc 255 (s.events.getD 4 clearedEntry).count
          let c := s.line.counters
          let place : Prop := s.muted = false ∧ s.line.queue.length + s.waitingOutside < 16
          let entry : EventEntry :=
            ⟨true, none, some (.total total), s.hubTime, n⟩
          t.events = s.events.set 4 entry
            ∧ (s.img.reported .cellOver = false →
                t.line.queue = s.line.queue ∧ t.line.counters = c)
            ∧ (s.img.reported .cellOver = true → place → t.line.counters = c
                ∧ t.line.queue = s.line.queue
                    ++ [⟨.report ⟨.cellOver, none, .total total, s.hubTime, n⟩, false⟩])
            ∧ (s.img.reported .cellOver = true → ¬place → t.line.queue = s.line.queue
                ∧ t.line.counters
                    = { c with reportsNotSent := holdInc 65535 c.reportsNotSent })))
      ∧ t.ports = s.ports ∧ t.claims = s.claims ∧ t.commands = s.commands ∧ t.frames = s.frames
      ∧ t.locator = s.locator ∧ t.triggers = s.triggers)
    ∧ (∀ error, (∀ how, error ≠ .brokeOff how) → ∃ t, exec (.receiveError error true) s = .next t
        ∧ t.view = s.view ∧ t.out = [.trailer false true false])

/-! ### The trigger unit and the exposure machines -/

/-- R56, R86 to R90, R93, R101: a TRIGGER received, or the hub's own as its attempt ends, is judged against
its line's last number: a duplicate or one of the first two stale ones in a row is ignored; an accepted one,
with a gap latched where numbers are missing or the line has started again, makes every subscribed port take
the exposure, or leave a missed record with the first reason that holds; other ports are left alone. The
records join the list of 16 in port order, the oldest leaving it counted, and TRIGGER_MISSED is latched. An
exposure taken during a piece abandons it: its acquisition is discarded, and an expose command is held. A
sense edge queues a TRIGGER, or is dropped and counted. When a hub receives is the model's reading (log 40). -/
def Obligations.TriggersReachTheirPorts : Prop :=
  ∀ s : State, s.supplied = true →
    let why (line : Nat) (p : Port) : Option MissReason :=
      let r := s.port p
      if (s.img.subscribed p).map Fin.val ≠ some line then none
      else if r.power.volatileLock || r.power.retainedLock then some .lockedOut
      else if r.link.state ≠ .up ∧ r.link.state ≠ .degraded then some .portNotUp
      else if r.scan.loader = .running then some .scanActive
      else if r.exposure.state ≠ .idle then some .overrun
      else if s.frames.tight && s.img.lowPriority p then some .storeTight
      else none
    let takes (line : Nat) (p : Port) : Prop :=
      (s.img.subscribed p).map Fin.val = some line ∧ why line p = none
    let accepted (line sequence : Nat) : Prop :=
      let e := s.triggers.lines.getD line startLine
      let d := (sequence + 256 - e.last) % 256
      e.valid = false ∨ 1 ≤ d ∧ d < 128 ∨ 128 ≤ d ∧ 2 ≤ e.staleRun
    let exposed (line sequence : Nat) (p : Port) (t : State) : Prop :=
      let r := s.port p
      let x := (t.port p).exposure
      x.origin = some (.line line sequence) ∧ x.takenAt = some s.hubTime
        ∧ x.taken = holdInc 65535 r.exposure.taken ∧ x.state ≠ .idle
        ∧ (s.img.triggerDelay p ≠ 0 →
            x.state = .delaying ∧ x.timer = some (s.img.triggerDelay p))
        ∧ (r.link.time = .piece → (t.port p).link.time = .abandoning
          ∧ (∀ se n u, s.locator.engine = .piece se n u → t.locator.engine = .piece se n false)
          ∧ (s.img.triggerDelay p = 0 → s.poweredMoving p = false →
              x.state = .delaying ∧ x.timer = none ∧ (t.port p).link.heldExpose = true))
        ∧ (t.port p).power = r.power
    let reached (line sequence : Nat) (t : State) : Prop :=
      let e := s.triggers.lines.getD line startLine
      let d := (sequence + 256 - e.last) % 256
      let out := allPorts.filterMap fun p => (why line p).map fun w => (p, w)
      let old := s.triggers
      let lost := old.missed.length + out.length - 16
      (line < old.lines.length → t.triggers.lines = old.lines.set line
          { e with last := sequence, valid := true, staleRun := 0,
                   staleCount := if e.valid = true ∧ 128 ≤ d then holdInc 65535 e.staleCount
                     else e.staleCount })
        ∧ (s.bounded = true → e.valid = true → 2 ≤ d →
            (t.events.getD 9 clearedEntry).detail
              = some (if d < 128 then .gap line (d - 1) false else .gap line 0 true))
        ∧ (old.missed.length ≤ 16 → old.nextRecord < 65536 →
            t.triggers.nextRecord = (old.nextRecord + out.length) % 65536
              ∧ t.triggers.missed = (old.missed ++ out.zipIdx.map fun x =>
                  (⟨(old.nextRecord + x.2) % 65536, .line line sequence, x.1.1, x.1.2,
                    s.hubTime⟩ : Missed)).drop lost)
        ∧ (old.missed.length ≤ 16 → old.dropped + lost ≤ 65535 →
            t.triggers.dropped = old.dropped + lost)
        ∧ (∀ p w, s.bounded = true → out.getLast? = some (p, w) →
            (t.events.getD 10 clearedEntry).latched = true
              ∧ (t.events.getD 10 clearedEntry).port = some p
              ∧ (t.events.getD 10 clearedEntry).detail = some (.missed w))
        ∧ ∀ p, takes line p → exposed line sequence p t
    (∀ (sender target : BitVec 4) (lineByte sequence : Byte), sender ≠ 15 →
      s.line.idle = 11 ∨ s.line.receiving = true →
      let line := lineByte.toNat % 16
      let e := s.triggers.lines.getD line startLine
      let d := (sequence.toNat + 256 - e.last) % 256
      let u := hearNotice sender false s.fresh
      let run := exec (.triggerReceived sender target lineByte sequence) s
      (e.valid = true → d = 0 → run = .next u)
      ∧ (e.valid = true → 128 ≤ d → e.staleRun < 2 →
          run = .next (setLine line { e with
            staleRun := e.staleRun + 1, staleCount := holdInc 65535 e.staleCount } u))
      ∧ (accepted line sequence.toNat → ∃ t, run = .next t ∧ reached line sequence.toNat t
          ∧ ∀ p, ¬takes line p → t.port p = s.port p))
    ∧ (∀ heard flaw hold it i line q, s.line.tx = .attempt → s.sendingItem = some it →
        it.body = .trigger i line (some q) → s.commands.buffer = [] →
        ∃ t, exec (.attemptEnd heard flaw hold) s = .next t
          ∧ (t.sense i).pending = .absent ∧ t.line.tx = .ready ∧ t.line.failureRun = 0
          ∧ (accepted line q → reached line q t)
          ∧ (¬accepted line q → t.triggers.missed = s.triggers.missed
              ∧ ∀ p, (t.port p).exposure = (s.port p).exposure)
          ∧ ((∀ se, s.locator.engine ≠ .waitingGap se) → ∀ p, ¬takes line p → t.port p = s.port p)
          ∧ (∀ p, (t.port p).power = (s.port p).power))
    ∧ (∀ i : Fin 2,
      (s.img.senseLine i = none → exec (.senseEdge i) s = .next s.fresh)
      ∧ (∀ line, s.img.senseLine i = some line →
        let dropped (why : OverrunCause) : State :=
          (s.fresh.setSense i { s.sense i with
            overrun := holdInc 65535 (s.sense i).overrun }).latch .senseOverrun none
              (.overrun i why)
        ((s.sense i).pending ≠ .absent → exec (.senseEdge i) s = .next (dropped .pending))
        ∧ ((s.sense i).pending = .absent → s.muted = true →
            exec (.senseEdge i) s = .next (dropped .mute))
        ∧ ((s.sense i).pending = .absent → s.muted = false → 16 ≤ s.line.queue.length →
            exec (.senseEdge i) s = .next (dropped .queueFull))
        ∧ ((s.sense i).pending = .absent → s.muted = false → s.line.queue.length < 16 →
            exec (.senseEdge i) s = .next
              ((s.fresh.setSense i { s.sense i with pending := .queued }).joinTx
                (.trigger i line.val none)))))

/-- R56, R71, R90 to R93, R96, R99, R101, R130, R133: at the end of the delay, or of the defer limit, the
expose command is issued, the frame marked as the axes move; under policy WAIT a moving axis defers it. In
ABANDONING it is held. A timeout frees the machine, is latched and counted, leaves a missed record, lets the
axes in WAIT_EXPOSURE go, and cancels the scan whose capture it was with NO_FRAME. A held scan capture is
taken in the event of the timeout, with no delay; under policy WAIT the axes in WAIT_EXPOSURE then wait on.
The end of a scan's settle wait asks for the step's first capture: an IDLE machine takes it in that event, a
busy one holds it. That a held capture is taken before the waiting axes go, and that these go before a piece
is granted, is the model's choice (log 12). -/
def Obligations.ExposureTimersRunOut : Prop :=
  ∀ (p : Port) (s : State), s.supplied = true →
    let r := s.port p
    let e := r.exposure
    let sent (mark : Bool) (t : State) : Prop :=
      (t.port p).exposure = { e with
          state := .exposing, timer := some (s.img.exposeTimeout p * 1000)
          sentAt := some s.hubTime
          positions := some ⟨r.focus.p / 256, r.iris.p / 256⟩
          movingMark := e.movingMark || mark || s.poweredMoving p }
        ∧ t.out = (if r.link.state = .up ∨ r.link.state = .degraded then [.exposeCommand p] else [])
        ∧ (∀ o, o ≠ p → t.port o = s.port o) ∧ t.events = s.events ∧ t.line = s.line
        ∧ (t.port p).power = r.power ∧ (t.port p).focus = r.focus ∧ (t.port p).iris = r.iris
    let taken (c : Capture) (t : State) : Prop :=
      let y := (t.port p).exposure
      let defers : Prop :=
        s.img.policyWait p = true ∧ s.poweredMoving p = true ∧ s.img.deferLimit p ≠ 0
      y.origin = some (.scan c) ∧ y.held = none ∧ y.takenAt = some s.hubTime
        ∧ y.taken = holdInc 65535 e.taken ∧ y.timeouts = holdInc 65535 e.timeouts
        ∧ (defers → y.state = .deferred ∧ y.timer = some (s.img.deferLimit p * 1000))
        ∧ (¬defers → r.link.time = .free → y.state = .exposing
            ∧ y.timer = some (s.img.exposeTimeout p * 1000) ∧ y.sentAt = some s.hubTime
            ∧ y.positions = some ⟨r.focus.p / 256, r.iris.p / 256⟩
            ∧ (s.poweredMoving p = true → y.movingMark = true)
            ∧ (r.link.state = .up ∨ r.link.state = .degraded → .exposeCommand p ∈ t.out))
        ∧ (¬defers → r.link.time ≠ .free →
            y.state = .delaying ∧ y.timer = none ∧ (t.port p).link.heldExpose = true)
        ∧ (r.link.time = .piece → (t.port p).link.time = .abandoning)
        ∧ (s.img.policyWait p = true → r.link.time = .free → ∀ n,
            (r.axis n).state = .waitExposure → (t.port p).axis n = r.axis n)
    let ended (o : Origin) (t : State) : Prop :=
      (t.events.getD 12 clearedEntry).detail = some (.origin o)
        ∧ (t.events.getD 12 clearedEntry).port = some p
        ∧ (t.triggers.missed.getLast?).map (fun m => (m.port, m.origin, m.reason))
            = some (p, o, .noFrame)
        ∧ (t.port p).power = r.power ∧ t.claims = s.claims ∧ t.frames = s.frames
    let freed (o : Origin) (t : State) : Prop :=
      (t.port p).exposure = { startExposure with
          taken := e.taken, timeouts := holdInc 65535 e.timeouts }
        ∧ ended o t
    let deferred : State := s.fresh.modExposure p fun e =>
      { e with state := .deferred, timer := some (s.img.deferLimit p * 1000) }
    let waits (mark : Bool) : State := (s.fresh.modLink p fun l => { l with heldExpose := true
      }).modExposure p fun e =>
        { e with state := .delaying, timer := none, movingMark := e.movingMark || mark }
    (e.state = .delaying → e.timer.isSome = true → r.link.time ≠ .abandoning →
      (s.img.policyWait p = false ∨ s.poweredMoving p = false →
        ∃ t, exec (.delayEnd p) s = .next t ∧ sent false t)
      ∧ (s.img.policyWait p = true → s.poweredMoving p = true → s.img.deferLimit p = 0 →
        ∃ t, exec (.delayEnd p) s = .next t ∧ sent true t)
      ∧ (s.img.policyWait p = true → s.poweredMoving p = true → s.img.deferLimit p ≠ 0 →
        exec (.delayEnd p) s = .next deferred))
    ∧ (e.state = .delaying → e.timer.isSome = true → r.link.time = .abandoning →
      (s.img.policyWait p = false ∨ s.poweredMoving p = false →
        exec (.delayEnd p) s = .next (waits false))
      ∧ (s.img.policyWait p = true → s.poweredMoving p = true → s.img.deferLimit p = 0 →
        exec (.delayEnd p) s = .next (waits true))
      ∧ (s.img.policyWait p = true → s.poweredMoving p = true → s.img.deferLimit p ≠ 0 →
        exec (.delayEnd p) s = .next deferred))
    ∧ (e.state = .deferred → r.link.time ≠ .abandoning →
        ∃ t, exec (.deferExpiry p) s = .next t ∧ sent true t)
    ∧ (e.state = .deferred → r.link.time = .abandoning →
        exec (.deferExpiry p) s = .next (waits true))
    ∧ (∀ o, e.state = .exposing → e.origin = some o → e.held = none → s.bounded = true →
        (∀ c, o = .scan c → c.run ≠ r.scan.runNumber) →
        ∃ t, exec (.exposeTimeout p) s = .next t ∧ freed o t ∧ (t.port p).scan = r.scan
          ∧ ∀ n, (r.axis n).state = .waitExposure → r.link.time = .free →
              (t.port p).axis n = { r.axis n with state := .moving, v := 0 })
    ∧ (∀ o c, e.state = .exposing → e.origin = some o → e.held = some c → s.bounded = true →
        (∀ c', o = .scan c' → c'.run ≠ r.scan.runNumber) →
        ∃ t, exec (.exposeTimeout p) s = .next t ∧ taken c t ∧ ended o t
          ∧ (t.port p).scan = r.scan)
    ∧ (∀ c, e.state = .exposing → e.origin = some (.scan c) → e.held = none → s.bounded = true →
        c.run = r.scan.runNumber → r.scan.loader = .running →
        ∃ t, exec (.exposeTimeout p) s = .next t ∧ freed (.scan c) t
          ∧ (t.port p).scan.loader = .cancelled
          ∧ (t.port p).scan.result.reason = some .noFrame
          ∧ (t.events.getD 20 clearedEntry).detail = some (.scanDone (some .noFrame))
          ∧ (t.events.getD 20 clearedEntry).port = some p)
    ∧ (∀ hd, r.scan.loader = .running → r.scan.phase = some .settle → r.scan.header = some hd →
        let x := r.scan
        let c : Capture := ⟨x.runNumber, x.step.getD 0, x.pass.getD 0, hd.storeFrames⟩
        ∃ t, exec (.scanSettleEnd p) s = .next t
          ∧ (t.port p).scan = { x with
              phase := some .capture, settleLeft := none
              counter := (x.program.getD (x.step.getD 0) noStep).captures }
          ∧ (e.state ≠ .idle → (t.port p).exposure = { e with held := some c })
          ∧ (e.state = .idle → (t.port p).exposure.state ≠ .idle
              ∧ (t.port p).exposure.origin = some (.scan c)
              ∧ (t.port p).exposure.takenAt = some s.hubTime
              ∧ (t.port p).exposure.taken = holdInc 65535 e.taken)
          ∧ (t.port p).power = r.power ∧ (∀ a, t.axis a = s.axis a) ∧ t.claims = s.claims
          ∧ t.frames = s.frames ∧ t.events = s.events)

/-! ### The port link -/

/-- R44, R45, R46, R47, R49, R63, R133: the head's report of lock, which implies the hub's own lock (the
model's reading, log 15), brings a TRAINING link UP with its first error window.
A loss of lock, however it is seen, takes an UP or DEGRADED link to TRAINING, its axes OFFLINE, a running
scan to CANCELLED and an open frame to its end, and powers nothing off. A training that times out leaves the
link DOWN, with a sweep of its cable asked for. -/
def Obligations.LockIsFoundAndLost : Prop :=
  ∀ (p : Port) (s : State), s.supplied = true → s.bounded = true →
    let l := (s.port p).link
    let lost (d : Detail) (t : State) : Prop :=
      let m := (t.port p).link
      m.state = .training ∧ m.trainUsed = 0 ∧ m.windowLeft = none ∧ m.highRun = 0
        ∧ m.cleanRun = 0 ∧ m.lastWindow = none ∧ m.gate ≠ .opened
        ∧ (t.port p).focus.state = .offline ∧ (t.port p).iris.state = .offline
        ∧ ((s.port p).scan.loader = .running → (t.port p).scan.loader = .cancelled
            ∧ (t.port p).scan.result.reason = some .linkLost)
        ∧ (t.events.getD 6 clearedEntry).detail = some d
        ∧ (t.events.getD 6 clearedEntry).port = some p
        ∧ (t.port p).power = (s.port p).power ∧ t.claims = s.claims
    (l.state = .training → ∃ t, exec (.lockReport p true) s = .next t
      ∧ (let m := (t.port p).link
        m.state = .up ∧ m.trainUsed = 0 ∧ m.windowCount = 0 ∧ m.windowLeft = some 100000
          ∧ m.highRun = 0 ∧ m.cleanRun = 0 ∧ m.timeouts = l.timeouts ∧ m.unasked = l.unasked)
      ∧ (t.events.getD 5 clearedEntry).detail = some .trained
      ∧ (t.port p).power = (s.port p).power ∧ (∀ a, t.axis a = s.axis a)
      ∧ t.claims = s.claims ∧ t.frames = s.frames)
    ∧ (l.state = .up ∨ l.state = .degraded → l.time = .free →
      (∃ t, exec (.lockReport p false) s = .next t ∧ lost .head t)
      ∧ (∃ t, exec (.streamLost p) s = .next t ∧ lost .stream t)
      ∧ (l.resumeLeft ≠ none → ∃ t, exec (.resumeCheckExpiry p) s = .next t ∧ lost .stream t))
    ∧ (l.state = .training → l.time = .free → ∃ t, exec (.trainingTimeout p) s = .next t
      ∧ (t.port p).link.state = .down ∧ (t.port p).link.timeouts = holdInc 255 l.timeouts
      ∧ (t.events.getD 8 clearedEntry).detail = some (.timeouts (holdInc 255 l.timeouts))
      ∧ ((s.port p).power.state = .on →
          (t.entry? p .live).isSome = true ∨ (t.entry? p .dark).isSome = true)
      ∧ (t.port p).link.awaited = (t.entry? p .live).isSome
      ∧ (t.port p).power = (s.port p).power ∧ (∀ a, t.axis a = s.axis a) ∧ t.claims = s.claims)

/-- R49, R50, R51, R52: a window of more than ERR_HIGH errors lengthens the high run, and the third in a row
takes an UP link to DEGRADED, with a sweep asked for; one of at most ERR_LOW lengthens the clean run, and the
tenth in a row takes a DEGRADED link UP. Any other window ends the run. A code error counts in the window and
marks an open frame. -/
def Obligations.ErrorWindowsAreJudged : Prop :=
  ∀ (p : Port) (s : State), s.supplied = true → s.bounded = true →
    let l := (s.port p).link
    let w := l.windowCount
    let judged (f : LinkPart → LinkPart) : Host.Outcome State Fault Refusal :=
      .next (s.fresh.modLink p fun l => f { l with
        lastWindow := some w, windowCount := 0, windowLeft := some 100000 })
    let moved (st : LinkState) (t : State) : Prop :=
      (t.port p).link = { l with
          state := st, highRun := 0, cleanRun := 0, lastWindow := some w, windowCount := 0
          windowLeft := some 100000 }
        ∧ (t.port p).power = (s.port p).power ∧ (∀ a, t.axis a = s.axis a)
        ∧ t.claims = s.claims ∧ t.frames = s.frames
    let run := exec (.errorWindowEnd p) s
    (l.state = .up →
      (s.img.errHigh < w → l.highRun < 2 → run = judged fun l => { l with highRun := l.highRun + 1 })
      ∧ (w ≤ s.img.errHigh → run = judged fun l => { l with highRun := 0 })
      ∧ (s.img.errHigh < w → 2 ≤ l.highRun → ∃ t, run = .next t ∧ moved .degraded t
          ∧ (t.events.getD 7 clearedEntry).detail = some (.window w)
          ∧ ((s.port p).power.state = .on →
              (t.entry? p .live).isSome = true ∨ (t.entry? p .dark).isSome = true)))
    ∧ (l.state = .degraded →
      (w ≤ s.img.errLow → l.cleanRun < 9 →
        run = judged fun l => { l with cleanRun := l.cleanRun + 1 })
      ∧ (s.img.errLow < w → run = judged fun l => { l with cleanRun := 0 })
      ∧ (w ≤ s.img.errLow → 9 ≤ l.cleanRun → ∃ t, run = .next t ∧ moved .up t
          ∧ t.locator = s.locator
          ∧ (t.events.getD 5 clearedEntry).detail = some .recovered))
    ∧ (l.state = .up ∨ l.state = .degraded → l.time = .free →
      let counted := s.fresh.modLink p fun l => { l with windowCount := holdInc 65535 w }
      (l.gate ≠ .opened → exec (.codeError p) s = .next counted)
      ∧ (∀ n r, l.gate = .opened → s.fillingSlot p = some (n, r) →
          exec (.codeError p) s
            = .next (counted.setSlot n ⟨.filling, some { r with linkErrors := true }⟩)))

/-- R52, R71, R95, R97, R99, R105 to R108, R110, R121 to R123: a frame start in EXPOSING opens a frame: the
machine is RECEIVING, and a frame that is kept takes the port's next number and the lowest FREE slot, after
which the store is judged by its water marks, or is dropped and counted, with FRAME_DROPPED latched and a
STORE_FULL record, and the axes in WAIT_EXPOSURE go; any other frame is discarded to its end and counted. A
port with an ROI meters the frame, with the ROI clipped to it and its sums at 0, unless that leaves none of
it. Pixel data of an open frame goes to its slot and to the metric unit. The slot holds the bytes in order,
8,388,608 at most; with the first pixel that finds no room TRUNCATED is set and the rest is discarded. The
metric unit passes over rows outside the clipped ROI; a row within them, in one item or in several that
follow each other, adds with its last pixel its differences, normalised to 12 bits, to S and is counted; one
that lacks a pixel of the ROI is dropped whole with the partial mark, and so is one that another breaks off.
The frame's end completes the slot with the metric, min(65,535, floor(16 S / n)) or none where n is 0, and
queues it, and frees the machine, which takes a held scan capture in that event. (The end of a capture's
frame in its own run is in ScanCommandsAct.) That an item of the image lane ends the resumption check is the
model's inference (log 14), and so is that the pixels that fit are stored whole (log 18); where pixels stand
and how they are stored (log 17), that a frame which is not metered clears the partial mark (log 48), and
that the held capture is taken before the waiting axes go and a piece is granted (log 12), are its choices.
(A frame start within an open frame, log 29, is left out.) -/
def Obligations.FramesAreReceived : Prop :=
  ∀ (p : Port) (s : State), s.supplied = true → laneOpen s p = true →
    let r := s.port p
    let judged (n : Nat) (s t : State) : Prop :=
      t.frames.tight = (if s.frames.tight = true then decide (s.img.lowMark < n)
          else decide (s.img.highMark < n))
        ∧ (s.bounded = true → s.frames.tight = false → s.img.highMark < n →
            (t.events.getD 14 clearedEntry).detail = some (.occupancy n)
              ∧ (t.events.getD 14 clearedEntry).port = none)
    let came := s.fresh.modLink p fun l => { l with resumeLeft := none }
    let fillsHere (n : Nat) (x : SlotRecord) : Prop :=
      n < s.frames.slots.length ∧ s.slot n = ⟨.filling, some x⟩ ∧ x.port = p
    let taken (c : Capture) (t : State) : Prop :=
      let y := (t.port p).exposure
      let defers : Prop :=
        s.img.policyWait p = true ∧ s.poweredMoving p = true ∧ s.img.deferLimit p ≠ 0
      y.origin = some (.scan c) ∧ y.held = none ∧ y.takenAt = some s.hubTime
        ∧ y.taken = holdInc 65535 r.exposure.taken ∧ y.timeouts = r.exposure.timeouts
        ∧ (defers → y.state = .deferred ∧ y.timer = some (s.img.deferLimit p * 1000))
        ∧ (¬defers → y.state = .exposing
            ∧ y.timer = some (s.img.exposeTimeout p * 1000) ∧ y.sentAt = some s.hubTime
            ∧ y.positions = some ⟨r.focus.p / 256, r.iris.p / 256⟩
            ∧ (s.poweredMoving p = true → y.movingMark = true)
            ∧ (r.link.state = .up ∨ r.link.state = .degraded → .exposeCommand p ∈ t.out))
        ∧ (s.img.policyWait p = true → ∀ n, (r.axis n).state = .waitExposure → (t.port p).axis n = r.axis n)
    (∀ n, s.lowestFree = some n ↔ n < s.frames.slots.length ∧ (s.slot n).state = .free
        ∧ ∀ m, m < n → (s.slot m).state ≠ .free)
    ∧ (∀ n x, fillsHere n x → (∀ m y, m < n → ¬fillsHere m y) → s.fillingSlot p = some (n, x))
    ∧ (∀ n x, s.fillingSlot p = some (n, x) → fillsHere n x)
    ∧ (∀ format width height,
      (r.link.gate ≠ .opened → r.exposure.state ≠ .exposing →
        exec (.frameStart p format width height) s = .next (came.modLink p fun l =>
          { l with gate := .discarding, unasked := holdInc 65535 l.unasked }))
      ∧ (∀ o, r.link.gate ≠ .opened → r.exposure.state = .exposing → r.exposure.origin = some o →
        ∃ t, exec (.frameStart p format width height) s = .next t
          ∧ (t.port p).link.gate = .opened
          ∧ (t.port p).exposure = { r.exposure with state := .receiving, timer := none }
          ∧ (∀ n, (t.port p).axis n = (if (r.axis n).state = .waitExposure then
              { r.axis n with state := .moving, v := 0 } else r.axis n))
          ∧ (o.kept = false → t.frames = s.frames ∧ (t.port p).frameCounter = r.frameCounter)
          ∧ (o.kept = true → (t.port p).frameCounter = (r.frameCounter + 1) % 65536)
          ∧ (∀ n, o.kept = true → s.lowestFree = some n →
              t.slot n = ⟨.filling, some
                { port := p, origin := o, frameNumber := r.frameCounter, format := format
                  width := width.toNat, height := height.toNat, pixels := []
                  captureTime := r.exposure.sentAt.getD 0
                  positions := r.exposure.positions.getD ⟨0, 0⟩, metric := none, sendNumber := 0
                  truncated := false, linkErrors := false, lensMoving := r.exposure.movingMark
                  scanFrame := (match o with | .line _ _ => false | .scan _ => true)
                  metricPartial := false }⟩
                ∧ (∀ m, m ≠ n → t.slot m = s.slot m) ∧ t.frames.dropCount = s.frames.dropCount
                ∧ t.occupancy = s.occupancy + 1 ∧ judged (s.occupancy + 1) s t)
          ∧ (o.kept = true → s.lowestFree = none → t.frames.slots = s.frames.slots
              ∧ t.frames.dropCount = holdInc 65535 s.frames.dropCount
              ∧ t.frames.tight = s.frames.tight
              ∧ (t.triggers.missed.getLast?).map (fun m => (m.port, m.origin, m.reason, m.time))
                  = some (p, o, .storeFull, s.hubTime)
              ∧ (s.bounded = true →
                  (t.events.getD 13 clearedEntry).detail = some (.frame r.frameCounter)
                    ∧ (t.events.getD 13 clearedEntry).port = some p))
          ∧ (let m := (t.port p).metric
            let roi (item : Nat) : Nat := min (s.img.item item p.val) 65535
            let given : Prop := roi 26 ≤ roi 27 ∧ roi 28 ≤ roi 29
            let x1 := min (roi 27) (width.toNat - 1)
            let y1 := min (roi 29) (height.toNat - 1)
            m.scanFrame = (match o with | .line _ _ => false | .scan _ => true)
              ∧ m.format = format ∧ m.width = width.toNat ∧ m.partialMark = false
              ∧ (¬given → m.active = false ∧ m.clip = .absent)
              ∧ (given → x1 < roi 26 ∨ y1 < roi 28 → m.active = false ∧ m.clip = .empty)
              ∧ (given → roi 26 ≤ x1 → roi 28 ≤ y1 → m.active = true
                  ∧ m.clip = .area ⟨roi 26, x1, roi 28, y1⟩ ∧ m.sum = 0 ∧ m.rows = 0 ∧ m.rowSum = 0
                  ∧ m.row = none))
          ∧ (t.port p).power = r.power ∧ t.claims = s.claims))
    ∧ (∀ row column pixels,
      (r.link.gate ≠ .opened → exec (.pixelData p row column pixels) s = .next came)
      ∧ (r.link.gate = .opened →
        let metered (t : State) : State :=
          t.modMetric p fun m => m.rowData row.toNat column.toNat pixels
        (s.fillingSlot p = none → exec (.pixelData p row column pixels) s = .next (metered came))
        ∧ (∀ n x, s.fillingSlot p = some (n, x) →
          exec (.pixelData p row column pixels) s
            = .next (metered (came.setSlot n ⟨.filling, some (x.fill pixels)⟩)))))
    ∧ (∀ (x : SlotRecord) (pixels : List (BitVec 12)),
      let size := if x.format = .bits8 then 1 else 2
      let bytes (v : BitVec 12) : List Byte := match x.format with
        | .bits8 => [v.setWidth 8]
        | .bits10 => [BitVec.ofNat 8 (v.toNat % 1024 / 256), BitVec.ofNat 8 (v.toNat % 256)]
        | .bits12 => [BitVec.ofNat 8 (v.toNat / 256), BitVec.ofNat 8 (v.toNat % 256)]
      (x.truncated = true → x.fill pixels = x)
      ∧ (x.truncated = false → x.pixels.length + size * pixels.length ≤ 8388608 →
          x.fill pixels = { x with pixels := x.pixels ++ pixels.flatMap bytes })
      ∧ (x.truncated = false → x.pixels.length ≤ 8388608 →
          8388608 < x.pixels.length + size * pixels.length →
          x.fill pixels = { x with
            truncated := true
            pixels := x.pixels
              ++ (pixels.take ((8388608 - x.pixels.length) / size)).flatMap bytes })
      ∧ (x.pixels.length ≤ 8388608 → (x.fill pixels).pixels.length ≤ 8388608))
    ∧ (∀ m : Metric,
      let value (v : BitVec 12) : Nat := match m.format with
        | .bits8 => v.toNat % 256 * 16
        | .bits10 => v.toNat % 1024 * 4
        | .bits12 => v.toNat
      (∀ y x vs ws, m.rowData y x (vs ++ ws) = (m.rowData y x vs).rowData y (x + vs.length) ws)
      ∧ (m.active = false → (∀ y x vs, m.rowData y x vs = m) ∧ ∀ cut, m.close cut = ⟨none, false⟩)
      ∧ (∀ g, m.active = true → m.clip = .area g →
        (∀ y x vs, y < g.y0 ∨ g.y1 < y → m.rowData y x vs = m)
        ∧ (∀ y x vs, g.y0 ≤ y → y ≤ g.y1 → g.x0 ≤ g.x1 → g.x1 < m.width → m.row ≠ some y → x ≤ g.x0 →
          let brokenOff : Bool := m.row.isSome && m.nextCol ≤ m.width
          let px (c : Nat) : Nat := value (vs.getD (c - x) 0)
          let diff (c : Nat) : Nat := max (px c) (px (c + 1)) - min (px c) (px (c + 1))
          (x + vs.length = m.width → let t := m.rowData y x vs
            t.sum = min (m.sum + ((List.range' g.x0 (g.x1 - g.x0)).map diff).sum) (2 ^ 40 - 1)
              ∧ t.rows = m.rows + 1 ∧ t.rowSum = 0 ∧ t.partialMark = (m.partialMark || brokenOff)
              ∧ t.active = true ∧ t.clip = .area g ∧ t.scanFrame = m.scanFrame)
          ∧ (∀ z ws, x + vs.length ≤ g.x1 → max (x + vs.length) g.x0 < z → ws ≠ [] →
              z + ws.length = m.width → let t := (m.rowData y x vs).rowData y z ws
            t.sum = m.sum ∧ t.rows = m.rows ∧ t.rowSum = 0 ∧ t.partialMark = true
              ∧ t.active = true ∧ t.clip = .area g ∧ t.scanFrame = m.scanFrame))
        ∧ (∀ cut, let n := (g.x1 - g.x0) * m.rows
          m.close cut = ⟨if n = 0 then none else some (min 65535 (16 * m.sum / n)),
            m.partialMark || cut || decide (m.rows < g.y1 - g.y0 + 1)⟩)))
    ∧ (∀ rows,
      (r.link.gate = .none → exec (.frameEnd p rows) s = .next came)
      ∧ (r.link.gate = .discarding →
        exec (.frameEnd p rows) s = .next (came.modLink p fun l => { l with gate := .none }))
      ∧ (∀ o, r.link.gate = .opened → r.exposure.origin = some o →
        (∀ c, o = .scan c → r.scan.loader ≠ .running ∨ r.scan.phase ≠ some .capture
          ∨ c.run ≠ r.scan.runNumber) →
        ∃ t, exec (.frameEnd p rows) s = .next t
          ∧ (t.port p).link.gate = .none ∧ (t.port p).scan = r.scan
          ∧ (r.exposure.held = none → (t.port p).exposure = { startExposure with
              taken := r.exposure.taken, timeouts := r.exposure.timeouts })
          ∧ (∀ c, r.exposure.held = some c → taken c t)
          ∧ (t.port p).metric.active = false
          ∧ (∀ n x, s.fillingSlot p = some (n, x) →
              ((t.slot n).state = .ready ∧ n ∈ t.frames.outQueue
                ∨ (t.slot n).state = .sending ∧ t.outLink.send = some ⟨n, .record, 0, false⟩)
              ∧ ∃ y, (t.slot n).record = some y ∧ y.pixels = x.pixels ∧ y.truncated = x.truncated
                  ∧ y.frameNumber = x.frameNumber
                  ∧ y.metric = (r.metric.close false).metric
                  ∧ y.metricPartial = (r.metric.close false).partialMark)
          ∧ (t.port p).power = r.power ∧ t.claims = s.claims))

/-- R64, R79, R80, R81: a position report brings an OFFLINE axis to REST where the head stands, within the
limits. A credible report is kept, and one that the axis does not follow is counted; one that is not
credible is counted, and the third of those in a row, or the fifth that the axis does not follow, makes the
axis LOST. An active end flag in the direction of motion stops the axis where it is, FROZEN under a GUARD
stop; the active end of a STOPPED_END axis, seen clear, brings it to REST. A FROZEN or LOST axis keeps the
report unchecked. Where an axis of a port with a running scan is LOST or stops at an end, the scan is
cancelled with that reason and the scan move of the other axis is stopped; a report that does neither leaves
the scan as it is (R133, R134). That the part of FOCUS is taken first (log 12), that a cancelled scan has no
pass, no step and no axis left to land (log 49), and that its end action taken stays the loaded one (log 42)
are the model's choices. That the move source of an axis whose move has ended stays is the model's reading
(log 53). -/
def Obligations.PositionReportsAreChecked : Prop :=
  (∀ (p : Port) (f i : HeadReport) (n : AxisName) (s : State), s.supplied = true →
    laneOpen s p = true → (s.port p).scan.loader ≠ .running →
    (⟨p, n⟩ : AxisId) ∉ s.lens.waitList →
    let x := s.axis ⟨p, n⟩
    let h := match n with | .focus => f | .iris => i
    let far (a b : Nat) : Nat := max a b - min a b
    let q := x.params
    let checked : Prop := x.state ≠ .offline ∧ x.state ≠ .lost ∧ x.state ≠ .frozen
    let credible : Prop := ∀ l, x.last = some l → far h.pos.toNat l.pos.toNat ≤ q.varLimit
    let followed : Prop := far h.pos.toNat (x.p / 256) ≤ q.followTol
    let ended : Prop := x.state.poweredMoving = true ∧ 0 < x.v
      ∧ (x.dir = .near ∧ h.near = true ∨ x.dir = .far ∧ h.far = true)
    let left : Prop := x.state = .stoppedEnd
      ∧ (x.activeEnd = some .near ∧ h.near = false ∨ x.activeEnd = some .far ∧ h.far = false)
    let seen : AxisRec := { x with bad := 0, last := some h }
    let taken (z : AxisRec) (y : AxisRec) : Prop :=
      (¬ended → ¬left → y = z)
        ∧ (left → x.staged = false → y = { z with
            state := .rest, allowance := 0, hold := none, vmaxe := none, stopKind := none
            activeEnd := none })
        ∧ (ended → x.stopKind ≠ some .guard → y = { z with
            state := .stoppedEnd, activeEnd := some x.dir, v := 0, t := x.p, vmaxe := none
            hold := none, stopKind := none, allowance := min x.allowance q.holdMA })
        ∧ (ended → x.stopKind = some .guard → y.state = .frozen ∧ y.v = 0 ∧ y.p = x.p
            ∧ y.t = x.p ∧ y.allowance = 0 ∧ y.sinceFreeze = false)
    ∃ t, exec (.positionReport p f i) s = .next t
      ∧ (∀ a : AxisId, a.port ≠ p → a ∉ s.lens.waitList → t.axis a = s.axis a)
      ∧ (t.port p).power = (s.port p).power ∧ t.claims = s.claims ∧ t.frames = s.frames
      ∧ (let y := t.axis ⟨p, n⟩
        (x.state = .offline → x.staged = false →
          y.state = .rest ∧ y.p = clampTo (q.lo * 256) (q.hi * 256) (h.pos.toNat * 256)
            ∧ y.t = y.p ∧ y.last = some h ∧ y.allowance = 0 ∧ y.bad = 0 ∧ y.follow = 0)
        ∧ (x.state = .lost → y = { x with last := some h })
        ∧ (x.state = .frozen → y = { x with last := some h, sinceFreeze := true })
        ∧ (checked → ¬credible → x.bad < 2 → y = { x with bad := x.bad + 1 })
        ∧ (checked → (¬credible ∧ 2 ≤ x.bad ∨ credible ∧ ¬followed ∧ 4 ≤ x.follow) →
          y.state = .lost ∧ y.v = 0 ∧ y.allowance = 0 ∧ y.p = x.p ∧ y.t = x.t
            ∧ y.vmaxe = none ∧ y.hold = none)
        ∧ (checked → credible → followed → taken { seen with follow := 0 } y)
        ∧ (checked → credible → ¬followed → x.follow < 4 →
          taken { seen with follow := x.follow + 1 } y)))
  ∧ (∀ (p : Port) (f i : HeadReport) (s : State), s.supplied = true → s.bounded = true →
    laneOpen s p = true → (∀ a ∈ s.lens.waitList, (s.axis a).state = .waitPower) →
    let x := (s.port p).scan
    let ax (n : AxisName) : AxisRec := s.axis ⟨p, n⟩
    let h (n : AxisName) : HeadReport := match n with | .focus => f | .iris => i
    let far (a b : Nat) : Nat := max a b - min a b
    let checked (n : AxisName) : Prop :=
      (ax n).state ≠ .offline ∧ (ax n).state ≠ .lost ∧ (ax n).state ≠ .frozen
    let credible (n : AxisName) : Prop :=
      ∀ l, (ax n).last = some l → far (h n).pos.toNat l.pos.toNat ≤ (ax n).params.varLimit
    let fifth (n : AxisName) : Prop :=
      (ax n).params.followTol < far (h n).pos.toNat ((ax n).p / 256) ∧ 4 ≤ (ax n).follow
    let lost (n : AxisName) : Prop :=
      checked n ∧ (¬credible n ∧ 2 ≤ (ax n).bad ∨ credible n ∧ fifth n)
    let ended (n : AxisName) : Prop := checked n ∧ credible n ∧ ¬fifth n
      ∧ (ax n).state.poweredMoving = true ∧ 0 < (ax n).v
      ∧ ((ax n).dir = .near ∧ (h n).near = true ∨ (ax n).dir = .far ∧ (h n).far = true)
    let quiet (n : AxisName) : Prop := ¬lost n ∧ ¬ended n
    x.loader = .running → ∃ t, exec (.positionReport p f i) s = .next t
      ∧ (∀ n why, lost n ∧ why = .lost ∨ ended n ∧ why = .endStop → n = .focus ∨ quiet .focus →
          (t.port p).scan = { x with
              loader := .cancelled, phase := none, pass := none, step := none, counter := 0
              settleLeft := none, toLand := []
              result := { x.result with
                state := .cancelled, reason := some why, passReached := x.pass.getD 0
                stepReached := x.step.getD 0
                noMetric := decide (∀ y ∈ x.result.tallies, y.number = 0) } }
            ∧ (t.port p).exposure.held = none
            ∧ (t.events.getD 20 clearedEntry).detail = some (.scanDone (some why))
            ∧ (t.events.getD 20 clearedEntry).port = some p)
      ∧ (∀ n, lost n → n = .focus ∨ quiet .focus ∨ (ax n).staged = false →
          (t.axis ⟨p, n⟩).state = .lost ∧ (t.axis ⟨p, n⟩).v = 0
          ∧ (t.axis ⟨p, n⟩).allowance = 0 ∧ (t.axis ⟨p, n⟩).p = (ax n).p
          ∧ (t.events.getD 18 clearedEntry).latched = true)
      ∧ (∀ n, ended n → n = .focus ∨ quiet .focus ∨ (ax n).staged = false →
          (t.axis ⟨p, n⟩).p = (ax n).p ∧ (t.axis ⟨p, n⟩).v = 0
          ∧ ((ax n).stopKind ≠ some .guard → (t.axis ⟨p, n⟩).state = .stoppedEnd)
          ∧ ((ax n).state = .stopping → (ax n).stopKind = some .guard →
              (t.axis ⟨p, n⟩).state = .frozen)
          ∧ (t.events.getD 17 clearedEntry).latched = true)
      ∧ (∀ n m, n ≠ m → lost n ∨ ended n → quiet m → (ax m).source = .scan →
          (t.axis ⟨p, m⟩).source = (if (ax m).state = .moving ∨ (ax m).state.waiting = true
              then .command else .scan)
          ∧ ((ax m).state = .moving → 0 < (ax m).v → (t.axis ⟨p, m⟩).state = .stopping
              ∧ (t.axis ⟨p, m⟩).stopKind = some .command)
          ∧ ((ax m).state.waiting = true → (ax m).state ≠ .waitPower → (ax m).staged = false →
              (t.axis ⟨p, m⟩).state = .rest ∧ (t.axis ⟨p, m⟩).allowance = 0
                ∧ (t.axis ⟨p, m⟩).p = (ax m).p))
      ∧ (quiet .focus → quiet .iris → (t.port p).scan = x)
      ∧ (t.port p).power = (s.port p).power ∧ t.claims = s.claims ∧ t.frames = s.frames)

/-! ### The lens controller -/

/-- R61, R62, R65 to R68, R70, R78, R80, R94, R172: a lens command on an axis. A move, absolute or relative to
the target as it stands, comes into the limits; from REST, HOLDING or STOPPED_END it lands at once where the
axis stands already, or takes its allowance of the reserve, or the free part of it with a lower speed where
that suffices, and goes, or waits, behind those that wait already; in motion, in a wait or braking it is
retargeted. A stop brakes, ends a move at rest, or takes a waiting axis to REST, and leaves any other alone. A
parameter is written into the shadow set as it is given, which is loaded at once in REST and in HOLDING, and
else staged: a figure in its range is taken as written, another by the clamps of section 4.3, those bounded by
VMAX and by MOVE_MA after these two; P comes into the new limits, and T with it; in HOLDING the allowance
falls to the new HOLD_MA, where it is above it, with the wait list re-evaluated (MovesStayWithinTheLimits),
and the hold timer runs on. A LOST axis recovers to its head's place. Scans, GUARD, an active end and a state
that bars a move refuse it. A move that goes waits for link time, and under policy WAIT for an exposure in
DEFERRED or EXPOSING; else it moves, and marks one in EXPOSING. That a mode byte of 2 or more is an item that
the command does not know, refused with BAD_ARGUMENT (R172, section 10.2), is the model's reading (log 21). -/
def Obligations.LensCommandsAct : Prop :=
  ∀ (h : CmdHead) (b : Byte) (a : AxisId) (s : State), s.takes h = true → axisArg b = some a →
    let x := s.axis a
    let q := x.params
    let busy : Prop := (s.port a.port).scan.loader = .running
    let barred : Prop := x.state = .offline ∨ x.state = .lost ∨ x.state = .frozen
    let guarded : Prop := x.state = .stopping ∧ x.stopKind = some .guard
    let standing : Prop := x.state = .rest ∨ x.state = .holding ∨ x.state = .stoppedEnd
    (∀ (mode : Byte) (target : BitVec 24), 2 ≤ mode.toNat →
      exec (.lensMove h b mode target) s = .next (replied h 0x08 (refuse .badArgument) s.begun))
    ∧ (∀ (mode : Byte) (target : BitVec 24), mode = 0 ∨ mode = 1 →
      let want : Int := if mode = 1 then (x.t / 256 : Nat) + target.toInt else target.toInt
      let t := clampTo q.lo q.hi want.toNat
      let ended : Prop := x.state = .stoppedEnd
        ∧ (x.activeEnd = some .near ∧ t < x.p / 256 ∨ x.activeEnd = some .far ∧ x.p / 256 < t)
      let no (r : Reason) : Host.Outcome State Fault Refusal :=
        .next (replied h 0x08 (refuse r) s.begun)
      let run := exec (.lensMove h b mode target) s
      let free := s.reserveAmount - (s.allowances - x.allowance)
      (busy → run = no .scanActive)
      ∧ (¬busy → barred → run = no (.axis x.state))
      ∧ (¬busy → guarded → run = no (.axis .frozen))
      ∧ (¬busy → ¬barred → ¬guarded → s.lens.guardActive = true → run = no .guardActive)
      ∧ (¬busy → s.lens.guardActive = false → ended → run = no .atEnd)
      ∧ (¬busy → s.lens.guardActive = false → x.state = .moving ∨ x.state.waiting = true → ∃ ans,
          run = .next (replied h 0x08 ans
              (s.begun.setAxis a { x with source := .command, t := t * 256 }))
            ∧ ans.status = .accepted)
      ∧ (¬busy → s.lens.guardActive = false → x.state = .stopping → ¬guarded → ∃ ans u,
          run = .next (replied h 0x08 ans u) ∧ ans.status = .accepted
            ∧ u.axis a = { x with
                state := .moving, stopKind := none, source := .command, t := t * 256 }
            ∧ ((s.port a.port).exposure.state = .exposing →
                (u.port a.port).exposure.movingMark = true)
            ∧ (∀ o, o ≠ a → u.axis o = s.axis o) ∧ u.claims = s.claims)
      ∧ (¬busy → s.lens.guardActive = false → standing → ¬ended → t * 256 = x.p →
          x.staged = false → 0 < q.holdTime → s.lens.waitList = [] → ∃ ans u,
          run = .next (replied h 0x08 ans u) ∧ ans.status = .done
            ∧ (u.axis a).state = .holding ∧ (u.axis a).p = x.p ∧ (u.axis a).t = x.p
            ∧ (u.axis a).v = 0 ∧ (u.axis a).allowance = min x.allowance q.holdMA
            ∧ (u.axis a).hold = some (q.holdTime * 1000)
            ∧ (∀ o, o ≠ a → u.axis o = s.axis o) ∧ u.claims = s.claims)
      ∧ (¬busy → s.lens.guardActive = false → standing → ¬ended → t * 256 ≠ x.p → ∃ ans u,
          run = .next (replied h 0x08 ans u) ∧ ans.status = .accepted
            ∧ (∀ o, o ≠ a → u.axis o = s.axis o) ∧ u.claims = s.claims
            ∧ (u.axis a).t = t * 256 ∧ (u.axis a).p = x.p
            ∧ (let queued : Prop := (u.axis a).state = .waitPower
                  ∧ u.lens.waitList = s.lens.waitList ++ [a]
                  ∧ (u.axis a).allowance = x.allowance ∧ (u.axis a).hold = none
                let goes (vmax mA : Nat) : Prop := u.lens.waitList = []
                  ∧ (u.axis a).vmaxe = some vmax ∧ (u.axis a).allowance = mA
                  ∧ (let e := (s.port a.port).exposure
                    let barrier : Prop := s.img.policyWait a.port = true
                      ∧ (e.state = .exposing ∨ e.state = .deferred)
                    (s.port a.port).link.time = .free →
                      (barrier → (u.axis a).state = .waitExposure
                        ∧ (u.port a.port).exposure = e)
                      ∧ (¬barrier → (u.axis a).state = .moving ∧ (u.axis a).v = 0
                        ∧ (u.port a.port).exposure
                          = { e with movingMark := e.movingMark || e.state == .exposing }))
                  ∧ ((s.port a.port).link.time ≠ .free → (u.axis a).state = .waitLink)
                let least := max q.vstart q.vstop
                (s.lens.waitList ≠ [] → queued)
                ∧ (s.lens.waitList = [] → 0 < q.moveMA → 0 < s.reserveAmount →
                  (q.moveMA ≤ free → least ≤ q.vmax → goes q.vmax q.moveMA)
                  ∧ (free < q.moveMA → least ≤ q.vmax * free / q.moveMA →
                      goes (q.vmax * free / q.moveMA) free)
                  ∧ (free < q.moveMA → q.vmax * free / q.moveMA < least → queued))
                ∧ (s.lens.waitList = [] → q.moveMA = 0 ∨ s.reserveAmount = 0 → least ≤ q.vmax →
                    goes q.vmax 0))))
    ∧ (busy → exec (.lensStop h b) s = .next (replied h 0x09 (refuse .scanActive) s.begun))
    ∧ (¬busy → x.state = .moving → 0 < x.v → ∃ u,
        exec (.lensStop h b) s = .next (replied h 0x09 (accepted []) u)
          ∧ u.axis a = { x with state := .stopping, stopKind := some .command }
          ∧ (∀ o, o ≠ a → u.axis o = s.axis o) ∧ u.claims = s.claims)
    ∧ (¬busy → x.state = .moving → x.v = 0 → x.staged = false → 0 < q.holdTime →
        s.lens.waitList = [] → ∃ u,
        exec (.lensStop h b) s = .next (replied h 0x09 (done []) u)
          ∧ (u.axis a).state = .holding ∧ (u.axis a).p = x.p ∧ (u.axis a).t = x.p
          ∧ (u.axis a).allowance = min x.allowance q.holdMA
          ∧ (∀ o, o ≠ a → u.axis o = s.axis o) ∧ u.claims = s.claims)
    ∧ (¬busy → x.state.waiting = true → x.staged = false → ∃ u,
        exec (.lensStop h b) s = .next (replied h 0x09 (done []) u)
          ∧ (u.axis a).state = .rest ∧ (u.axis a).p = x.p ∧ (u.axis a).t = x.p
          ∧ (u.axis a).allowance = 0 ∧ a ∉ u.lens.waitList ∧ u.claims = s.claims)
    ∧ (¬busy → standing ∨ barred ∨ x.state = .stopping → ∃ ans u,
        exec (.lensStop h b) s = .next (replied h 0x09 ans u)
          ∧ ans = (if x.state = .stopping then accepted [] else done [])
          ∧ (∀ o, u.axis o = s.axis o) ∧ u.claims = s.claims ∧ u.lens = s.lens)
    ∧ (∀ (param : Byte) (v : BitVec 16), param.toNat < 15 →
        let y := { x with shadow := x.shadow.write param.toNat v.toNat }
        (x.state = .rest → ∃ ans,
          exec (.lensSetParam h b param v) s
              = .next (replied h 0x0A ans (s.begun.setAxis a y.load))
            ∧ ans.status = .done)
        ∧ (x.state = .holding → ∃ ans,
          let w := s.begun.setAxis a y.load
          exec (.lensSetParam h b param v) s
              = .next (replied h 0x0A ans
                  (if y.load.params.holdMA < x.allowance then reevaluate w else w))
            ∧ ans.status = .done)
        ∧ (let w := y.shadow
          let o := x.shadow
          [w.lo, w.hi, w.vmax, w.vstart, w.vstop, w.vbreak, w.astart, w.amax, w.dmax, w.dfinal, w.moveMA,
              w.holdMA, w.holdTime, w.varLimit, w.followTol]
            = [o.lo, o.hi, o.vmax, o.vstart, o.vstop, o.vbreak, o.astart, o.amax, o.dmax, o.dfinal,
              o.moveMA, o.holdMA, o.holdTime, o.varLimit, o.followTol].set param.toNat v.toNat)
        ∧ (let z := y.load
          let w := y.shadow
          let c := z.params
          let into (least most n : Nat) : Nat := if n < least then least else if most < n then most else n
          c.lo = min (into 0 65535 w.lo) (into 0 65535 w.hi)
            ∧ c.hi = max (into 0 65535 w.lo) (into 0 65535 w.hi)
            ∧ c.vmax = into 1 32767 w.vmax ∧ c.vstart = into 0 c.vmax w.vstart
            ∧ c.vstop = into 1 c.vmax w.vstop ∧ c.vbreak = into 0 c.vmax w.vbreak
            ∧ c.astart = into 0 4095 w.astart ∧ c.amax = into 1 4095 w.amax
            ∧ c.dmax = into 1 4095 w.dmax ∧ c.dfinal = into 0 4095 w.dfinal
            ∧ c.moveMA = into 0 1500 w.moveMA ∧ c.holdMA = into 0 c.moveMA w.holdMA
            ∧ c.holdTime = into 0 2000 w.holdTime ∧ c.varLimit = into 0 65535 w.varLimit
            ∧ c.followTol = into 0 65535 w.followTol
            ∧ c.lo ≤ c.hi ∧ 1 ≤ c.vmax ∧ c.vmax ≤ 32767 ∧ 1 ≤ c.vstop ∧ c.vstop ≤ c.vmax)
        ∧ (let z := y.load
          z.params = y.shadow.load ∧ z.shadow = y.shadow ∧ z.staged = false
            ∧ z.p = clampTo (z.params.lo * 256) (z.params.hi * 256) x.p
            ∧ (z.p ≠ x.p → z.t = z.p) ∧ (z.p = x.p → z.t = x.t)
            ∧ z.allowance
                = (if x.state = .holding then min x.allowance z.params.holdMA else x.allowance)
            ∧ z.hold = x.hold ∧ z.state = x.state ∧ z.v = x.v)
        ∧ (x.state ≠ .rest → x.state ≠ .holding → ∃ ans,
          exec (.lensSetParam h b param v) s
              = .next (replied h 0x0A ans (s.begun.setAxis a { y with staged := true }))
            ∧ ans.status = .done))
    ∧ (x.state ≠ .lost → exec (.lensRecover h b) s = .next (replied h 0x0B (done []) s.begun))
    ∧ (∀ l, x.state = .lost → x.staged = false → x.last = some l → ∃ u,
        exec (.lensRecover h b) s = .next (replied h 0x0B (done []) u)
          ∧ (u.axis a).state = .rest
          ∧ (u.axis a).p = clampTo (q.lo * 256) (q.hi * 256) (l.pos.toNat * 256)
          ∧ (u.axis a).t = (u.axis a).p ∧ (u.axis a).bad = 0 ∧ (u.axis a).follow = 0
          ∧ (∀ o, o ≠ a → u.axis o = s.axis o))

/-- R27, R31, R67, R68, R70, R72 to R78: an update leaves a moving axis, and a stopping one, within the
travel limits it was within, and never faster than the limit of its move; a move that lands stands at its
target. And the moves that wait stay within the lens reserve: the power wait list is re-evaluated from its
head, which takes its allowance and its speed, leaves the list and goes to the gates where the reserve that
is free to it lets it go at its start and stop speeds, and the new head is then checked; the first that
fails ends it, and leaves all as it is. It is re-evaluated where a hold expires or a landing gives an
allowance back, where LENS_STOP takes the head off the list or an allowance from an axis on it, and where a
grant brings the reserve. That the move source of an axis whose move has ended stays is the model's reading
(log 53). -/
def Obligations.MovesStayWithinTheLimits : Prop :=
  (∀ x : AxisRec,
    let q := x.params
    let within (y : AxisRec) : Prop := q.lo * 256 ≤ y.p ∧ y.p ≤ q.hi * 256
    within x → q.lo * 256 ≤ x.t → x.t ≤ q.hi * 256 →
      within x.moveStep.1 ∧ x.moveStep.1.params = q
      ∧ (x.v ≤ x.limit → q.vstop ≤ x.limit → x.moveStep.1.v ≤ x.limit)
      ∧ (x.moveStep.2 = true → x.moveStep.1.p = x.t)
      ∧ (∀ d, within (x.stopStep d) ∧ (x.stopStep d).v ≤ x.v))
  ∧ (∀ s : State,
    (s.lens.waitList = [] → reevaluate s = s)
    ∧ (∀ a rest, s.lens.waitList = a :: rest →
      let x := s.axis a
      let q := x.params
      let r := s.port a.port
      let e := r.exposure
      let free := s.reserveAmount - (s.allowances - x.allowance)
      let unbound : Prop := q.moveMA = 0 ∨ s.reserveAmount = 0
      let vmax := if unbound ∨ q.moveMA ≤ free then q.vmax else q.vmax * free / q.moveMA
      let mA := if unbound then 0 else min q.moveMA free
      let barrier : Prop :=
        s.img.policyWait a.port = true ∧ (e.state = .exposing ∨ e.state = .deferred)
      let goes : AxisState :=
        if r.link.time ≠ .free then .waitLink else if barrier then .waitExposure else .moving
      (vmax < max q.vstart q.vstop → reevaluate s = s)
      ∧ (max q.vstart q.vstop ≤ vmax → ∃ u, reevaluate s = reevaluate u
        ∧ u.lens = { s.lens with waitList := rest }
        ∧ u.axis a = { x with
            state := goes, v := if goes = .moving then 0 else x.v, vmaxe := some vmax
            allowance := mA, hold := none, activeEnd := none }
        ∧ (∀ o, o ≠ a → u.axis o = s.axis o)
        ∧ (u.port a.port).link = { r.link with
            waitEntered := r.link.waitEntered || r.link.time == .piece }
        ∧ (u.port a.port).exposure = { e with
            movingMark := e.movingMark || (goes == .moving && e.state == .exposing) }
        ∧ (∀ p, p ≠ a.port → u.port p = s.port p)
        ∧ u.claims = s.claims ∧ u.events = s.events ∧ u.out = s.out)))
  ∧ (∀ (a : AxisId) (s : State), s.supplied = true →
    let x := s.axis a
    let rested (s : State) (t : Nat) : State := s.setAxis a { x with
      state := .rest, allowance := 0, hold := none, vmaxe := none, stopKind := none
      activeEnd := none, t := t }
    let asIn (r t : State) : Prop := t.lens = r.lens ∧ ∀ o, t.axis o = r.axis o
    x.staged = false →
      (x.state = .holding → x.hold ≠ none → 0 < x.allowance →
        exec (.holdExpiry a) s = .next (reevaluate (rested s.fresh x.t)))
      ∧ (x.state = .moving → x.moveStep.2 = true → x.source = .command → 0 < x.params.holdTime →
        x.params.holdMA < x.allowance → ∃ t, exec (.lensUpdate a) s = .next t
          ∧ asIn (reevaluate (s.setAxis a { x.moveStep.1 with
              state := .holding, v := 0, vmaxe := none, stopKind := none, activeEnd := none
              allowance := x.params.holdMA, hold := some (x.params.holdTime * 1000) })) t)
      ∧ (∀ (h : CmdHead) (b : Byte), s.takes h = true → axisArg b = some a →
        (s.port a.port).scan.loader ≠ .running → x.state = .waitPower →
        s.lens.waitList.head? = some a ∨ 0 < x.allowance →
        let left := rested { s with lens := { s.lens with
          waitList := s.lens.waitList.filter fun o => o != a } } x.p
        ∃ u, exec (.lensStop h b) s = .next (replied h 0x09 (done []) u)
          ∧ asIn (reevaluate left) u)
      ∧ (∀ (it : TxItem) (c : ClaimInFlight) (heard : Bool), s.line.tx = .attempt →
        s.sendingItem = some it → it.body = .claim → s.claims.inFlight = some c →
        c.withdrawn = false → c.req.kind = .powerOn →
        (s.port c.req.port).power.state = .claiming → s.claims.reserveHeld = false →
        s.commands.buffer = [] → ∃ t, exec (.attemptEnd heard false false) s = .next t
          ∧ t.claims.reserveHeld = true
          ∧ asIn (reevaluate { s with claims := { s.claims with reserveHeld := true } }) t))

/-- R72 to R78, R83, R92, R129, R130, R132: a lens update advances a moving axis by its step and sends the
setpoint. From rest the step goes toward the target at the start speed, or at the acceleration of 0 where
there is none, and no faster than the limit of the move; with the target behind it brakes, to rest below
VSTOP; with the target ahead it brakes, to VSTOP at the least, within the braking distance, and else
accelerates up to the limit; where the rest of the way is no longer than its speed it lands at the target; and
a step that would leave the travel limits ends at the limit with speed 0. A landing takes the axis to HOLDING
with its hold allowance and its hold time, and is latched. A stop brakes at the deceleration, to rest below
VSTOP, and its end takes the axis there as well; where it was the last axis of its port in motion, a DEFERRED
exposure's command is issued, or held in ABANDONING. Under GUARD a stop brakes at DFREEZE and ends in FROZEN.
A landing of a scan move is reported: the last one of a step move begins the settle wait, which one of 0 ends
at once, and the last one of the end moves makes the run DONE. When the hold time runs out, the axis comes to
REST with no allowance. That the move source of an axis whose move has ended stays is the model's reading (log
53). -/
def Obligations.LensUpdatesMoveTheAxis : Prop :=
  ∀ (a : AxisId) (s : State), s.supplied = true → s.bounded = true → s.lens.waitList = [] →
    let x := s.axis a
    let landed (pos : Nat) (stopped : Bool) (t : State) : Prop :=
      let y := t.axis a
      y.state = .holding ∧ y.v = 0 ∧ y.p = pos ∧ y.t = pos ∧ y.vmaxe = none
        ∧ y.allowance = min x.allowance x.params.holdMA
        ∧ y.hold = some (x.params.holdTime * 1000)
        ∧ (t.events.getD 16 clearedEntry).detail
            = some (.lensDone (axisNumber a) (pos / 256) stopped)
        ∧ (∀ o, o ≠ a → t.axis o = s.axis o)
        ∧ (let r := s.port a.port
          let e := (t.port a.port).exposure
          r.exposure.state = .deferred →
            ((∃ n, n ≠ a.name ∧ (r.axis n).state.poweredMoving = true) → e.state = .deferred)
            ∧ ((∀ n, n ≠ a.name → (r.axis n).state.poweredMoving = false) →
              (r.link.time ≠ .abandoning → e.state = .exposing ∧ e.sentAt = some s.hubTime
                ∧ e.timer = some (s.img.exposeTimeout a.port * 1000)
                ∧ (r.link.state.passes = true → .exposeCommand a.port ∈ t.out))
              ∧ (r.link.time = .abandoning → e.state = .delaying ∧ e.timer = none
                ∧ (t.port a.port).link.heldExpose = true)))
    let setpoint (pos : Nat) (t : State) : Prop :=
      (s.port a.port).link.state.passes = true → .setpoint a (pos / 256) ∈ t.out
    let q := x.params
    let rate (v : Nat) : Nat := if q.vbreak = 0 ∨ q.vbreak ≤ v then q.amax
      else if q.astart = 0 then q.amax else q.astart
    let last := if q.dfinal = 0 then q.dmax else q.dfinal
    let braking (v : Nat) : Nat := if q.vbreak = 0 ∨ q.vbreak < v then q.dmax else last
    let distance (v : Nat) : Nat := if q.vbreak = 0 then v ^ 2 / (2 * q.dmax)
      else if q.vbreak < v then (v ^ 2 - q.vbreak ^ 2) / (2 * q.dmax) + q.vbreak ^ 2 / (2 * last)
      else v ^ 2 / (2 * last)
    let moved (dir : EndSide) (v : Nat) : AxisRec := match dir with
      | .far => if q.hi * 256 < x.p + v then { x with dir := .far, p := q.hi * 256, v := 0 }
        else { x with dir := .far, p := x.p + v, v := v }
      | .near => if x.p < q.lo * 256 + v then { x with dir := .near, p := q.lo * 256, v := 0 }
        else { x with dir := .near, p := x.p - v, v := v }
    (∀ m, x.state = .moving → x.vmaxe = some m →
      (x.v = 0 → x.p = x.t → x.moveStep = (x, true))
      ∧ (x.v = 0 → x.p ≠ x.t →
        let dir : EndSide := if x.p < x.t then .far else .near
        let way := max x.p x.t - min x.p x.t
        let v := min (if 0 < q.vstart then q.vstart else rate 0) m
        (way ≤ v → x.moveStep = ({ x with dir := dir, p := x.t, v := 0 }, true))
        ∧ (v < way → x.moveStep = (moved dir v, false)))
      ∧ (0 < x.v →
        let way : Int := match x.dir with | .far => (x.t : Int) - x.p | .near => (x.p : Int) - x.t
        let slower := x.v - braking x.v
        (way < 0 → x.moveStep = (moved x.dir (if slower < q.vstop then 0 else slower), false))
        ∧ (0 ≤ way →
          let v := if way ≤ distance x.v then max slower q.vstop
            else if x.v < m then min (x.v + rate x.v) m else x.v
          (way ≤ v → x.moveStep = ({ x with p := x.t, v := 0 }, true))
          ∧ (v < way → x.moveStep = (moved x.dir v, false)))))
    ∧ (∀ d, x.stopStep d = if x.v - d < q.vstop then { x with v := 0 } else moved x.dir (x.v - d))
    ∧ (x.state = .moving → x.moveStep.2 = false → ∃ t, exec (.lensUpdate a) s = .next t
      ∧ t.axis a = x.moveStep.1 ∧ setpoint x.moveStep.1.p t
      ∧ (∀ o, o ≠ a → t.axis o = s.axis o) ∧ t.events = s.events)
    ∧ (x.state = .moving → x.moveStep.2 = true → x.source = .command → x.staged = false →
        0 < x.params.holdTime → ∃ t, exec (.lensUpdate a) s = .next t ∧ landed x.t false t
          ∧ setpoint x.t t)
    ∧ (x.state = .moving → x.moveStep.2 = true → x.source = .scan → x.staged = false →
        0 < x.params.holdTime →
        let sc := (s.port a.port).scan
        let left := sc.toLand.filter fun n => n != a.name
        let wait := (sc.program.getD (sc.step.getD 0) noStep).settle
        sc.loader = .running → a.name ∈ sc.toLand →
        ∃ t, exec (.lensUpdate a) s = .next t ∧ landed x.t false t
          ∧ (let u := (t.port a.port).scan
            (left ≠ [] → u = { sc with toLand := left })
            ∧ (left = [] → sc.phase = some .stepMove → 0 < wait → u = { sc with
                toLand := [], phase := some .settle, settleLeft := some (wait * 1000) })
            ∧ (left = [] → sc.phase = some .stepMove → wait = 0 → u = { sc with
                  toLand := [], phase := some .capture, settleLeft := none
                  counter := (sc.program.getD (sc.step.getD 0) noStep).captures }
                ∧ (t.port a.port).exposure.state ≠ .idle)
            ∧ (left = [] → sc.phase = some .endMove →
                u.loader = .done ∧ u.phase = none ∧ u.program = sc.program
                  ∧ u.result = { sc.result with state := .done }
                  ∧ (t.events.getD 20 clearedEntry).detail = some (.scanDone none)
                  ∧ (t.events.getD 20 clearedEntry).port = some a.port))
          ∧ (t.port a.port).power = (s.port a.port).power ∧ t.claims = s.claims)
    ∧ (x.state = .stopping → x.stopKind ≠ some .guard →
      let y := x.stopStep (braking x.v)
      (0 < y.v → ∃ t, exec (.lensUpdate a) s = .next t
        ∧ t.axis a = y ∧ setpoint y.p t
        ∧ (∀ o, o ≠ a → t.axis o = s.axis o))
      ∧ (y.v = 0 → x.staged = false → 0 < x.params.holdTime →
          ∃ t, exec (.lensUpdate a) s = .next t ∧ landed y.p true t ∧ setpoint y.p t))
    ∧ (x.state = .stopping → x.stopKind = some .guard →
      let y := x.stopStep s.img.dfreeze
      ∃ t, exec (.lensUpdate a) s = .next t ∧ setpoint y.p t
        ∧ (∀ o, o ≠ a → t.axis o = s.axis o)
        ∧ (0 < y.v → t.axis a = y ∧ t.events = s.events)
        ∧ (y.v = 0 → (t.axis a).state = .frozen ∧ (t.axis a).v = 0 ∧ (t.axis a).p = y.p
            ∧ (t.axis a).t = y.p ∧ (t.axis a).allowance = 0 ∧ (t.axis a).stopKind = none
            ∧ (t.axis a).sinceFreeze = false
            ∧ (t.events.getD 19 clearedEntry).detail = some (.lensFrozen (axisNumber a))))
    ∧ (x.state = .holding → x.hold ≠ none → x.staged = false →
        exec (.holdExpiry a) s = .next (s.fresh.setAxis a { x with
          state := .rest, allowance := 0, hold := none, vmaxe := none, stopKind := none
          activeEnd := none }))

/-- R82, R83, R133: GUARD brakes every axis that moves, freezes every axis that waits or stands within its
move, leaves the others alone and cancels every running scan; its release moves no axis. FREEZE_RELEASE
takes every FROZEN axis to REST, where the head was last seen since the freeze, and is refused under GUARD.
For an axis that a running scan holds, the clauses rest on the model's choice that at GUARD the lens
controller acts before the scan sequencers (log 12); R134 lets either act first. That the target of an axis
frozen at once, from a waiting state or at rest within its move, becomes its position is the model's choice
(log 41). -/
def Obligations.GuardStopsEveryAxis : Prop :=
  ∀ s : State,
    (s.supplied = true → (∀ a ∈ s.lens.waitList, (s.axis a).state = .waitPower) →
      ∃ t, exec .guardActivated s = .next t ∧ t.lens.guardActive = true ∧ t.lens.waitList = []
        ∧ (∀ p, (t.port p).scan.loader ≠ .running
            ∧ ((s.port p).scan.loader = .running →
                (t.port p).scan.result.reason = some .frozen)
            ∧ (t.port p).power = (s.port p).power)
        ∧ t.claims = s.claims
        ∧ ∀ a,
          let x := s.axis a
          let y := t.axis a
          let braking : Prop := x.state = .stopping ∨ x.state = .moving ∧ 0 < x.v
          (x.state.poweredMoving = false → x.state.waiting = false → y = x)
          ∧ (braking → 0 < s.img.dfreeze →
              y = { x with state := .stopping, stopKind := some .guard })
          ∧ (x.state.waiting = true ∨ x.state = .moving ∧ x.v = 0
              ∨ braking ∧ s.img.dfreeze = 0 →
              y.state = .frozen ∧ y.v = 0 ∧ y.p = x.p ∧ y.t = x.p ∧ y.allowance = 0
                ∧ y.stopKind = none ∧ y.sinceFreeze = false))
    ∧ (s.supplied = true → exec .guardReleased s
        = .next { s.fresh with lens := { s.lens with guardActive := false } })
    ∧ (∀ h, s.takes h = true → s.lens.guardActive = true →
        exec (.freezeRelease h) s = .next (replied h 0x0C (refuse .guardActive) s.begun))
    ∧ (∀ h, s.takes h = true → s.lens.guardActive = false → ∃ ans u,
        exec (.freezeRelease h) s = .next (replied h 0x0C ans u) ∧ ans.status = .done
          ∧ ans.results = [BitVec.ofNat 8 (allAxes.countP fun a => (s.axis a).state == .frozen)]
          ∧ u.lens = s.lens ∧ u.claims = s.claims ∧ u.events = s.events
          ∧ ∀ a,
            let x := s.axis a
            let y := u.axis a
            (x.state ≠ .frozen → y = x)
            ∧ (x.state = .frozen → y.state = .rest ∧ y.allowance = 0 ∧ y.bad = 0 ∧ y.follow = 0
                ∧ y.staged = false)
            ∧ (∀ l, x.state = .frozen → x.staged = false → x.sinceFreeze = true →
                x.last = some l →
                y.p = clampTo (x.params.lo * 256) (x.params.hi * 256) (l.pos.toNat * 256)
                  ∧ y.t = y.p)
            ∧ (x.state = .frozen → x.staged = false → x.sinceFreeze = false →
                y.p = x.p ∧ y.t = x.p))

/-! ### The scan sequencer -/

/-- R125 to R128, R130 to R134: a program is loaded by SCAN_BEGIN and one SCAN_STEP for each index in order,
its values brought into range; a loading command out of order aborts the load, whatever it carries, and an
aborted loader takes none until it is cleared. SCAN_RUN begins a run with a new number from a loaded or
finished program on a link that passes and axes at rest, and is refused first for the link, then for GUARD,
then for the state of FOCUS, then for that of IRIS; SCAN_CANCEL ends one. The end of a capture's frame adds
its metric to its step and asks for the next capture, goes on to the next step or the next pass, or begins
the end action by the best step, which is the first of those with the greatest mean. That SCAN_BEGIN's
header is judged in the idle states alone, and that a keep byte neither yes nor no is refused there with
BAD_ARGUMENT, are the model's reading (log 21). -/
def Obligations.ScanCommandsAct : Prop :=
  (∀ (h : CmdHead) (b : Byte) (p : Port) (s : State), s.takes h = true → portArg b = some p →
    let x := (s.port p).scan
    let idle : Prop :=
      x.loader = .empty ∨ x.loader = .loaded ∨ x.loader = .done ∨ x.loader = .cancelled
    let aborted (why : AbortDetail) : State :=
      (s.begun.modScan p fun x => { x with
        loader := .aborted, header := none, expected := none, program := [] }).latch .scanAborted
          (some p) (.scanAborted why)
    (∀ count passes act keep : Byte,
      let run := exec (.scanBegin h b count passes act keep) s
      let fits : Prop := 2 ≤ count.toNat ∧ count.toNat ≤ 16 ∧ 1 ≤ passes.toNat ∧ passes.toNat ≤ 4
      (∀ e f, idle → fits → endActionArg act = some e → yesNoArg keep = some f →
        run = .next (replied h 0x0E (done []) (s.begun.modScan p fun x => { x with
          loader := .loading, header := some ⟨count.toNat, passes.toNat, e, f⟩
          expected := some 0, program := [] })))
      ∧ (idle → ¬fits ∨ endActionArg act = none ∨ yesNoArg keep = none →
        run = .next (replied h 0x0E (refuse .badArgument) s.begun))
      ∧ (x.loader = .loading →
          run = .next (replied h 0x0E (refuse .loaderAborted) (aborted .begun)))
      ∧ (x.loader = .aborted → run = .next (replied h 0x0E (refuse .loaderAborted) s.begun))
      ∧ (x.loader = .running → run = .next (replied h 0x0E (refuse .scanActive) s.begun)))
    ∧ (∀ (index present captures settle : Byte) (focus iris : BitVec 16) (g : Bool),
      yesNoArg present = some g →
      let run := exec (.scanStep h b index focus present iris captures settle) s
      (∀ hd : ScanHeader, x.loader = .loading → x.header = some hd →
          x.expected = some index.toNat →
        let q := (s.port p).focus.params
        let r := (s.port p).iris.params
        let st : ScanStep :=
          { index := index.toNat, focus := clampTo q.lo q.hi focus.toNat
            iris := if g then some (clampTo r.lo r.hi iris.toNat) else none
            captures := clampTo 1 8 captures.toNat, settle := settle.toNat }
        let last : Prop := index.toNat + 1 = hd.count
        ∃ ans, ans.status = .done ∧
          run = .next (replied h 0x0F ans (s.begun.modScan p fun x => { x with
            program := x.program ++ [st]
            loader := if last then .loaded else .loading
            expected := if last then none else some (index.toNat + 1) })))
      ∧ (∀ hd e, x.loader = .loading → x.header = some hd → x.expected = some e →
          index.toNat ≠ e →
          run = .next (replied h 0x0F (refuse .loaderAborted) (aborted (.outOfOrder e index.toNat))))
      ∧ (x.loader = .aborted → run = .next (replied h 0x0F (refuse .loaderAborted) s.begun))
      ∧ (idle ∨ x.loader = .running →
          run = .next (replied h 0x0F (refuse .notLoading) s.begun)))
    ∧ (let run := exec (.scanRun h b) s
      (x.loader = .loading → run = .next (replied h 0x10 (refuse .loaderAborted) (aborted .run)))
      ∧ (x.loader = .aborted → run = .next (replied h 0x10 (refuse .loaderAborted) s.begun))
      ∧ (x.loader = .running → run = .next (replied h 0x10 (refuse .scanActive) s.begun))
      ∧ (x.loader = .empty ∨ x.loader = .cancelled →
          run = .next (replied h 0x10 (refuse .noProgram) s.begun))
      ∧ (x.loader = .loaded ∨ x.loader = .done →
        let link := (s.port p).link.state
        let passes : Prop := link = .up ∨ link = .degraded
        let focus := (s.port p).focus.state
        let iris := (s.port p).iris.state
        let still (st : AxisState) : Prop := st = .rest ∨ st = .holding
        let no (r : Reason) : Prop := run = .next (replied h 0x10 (refuse r) s.begun)
        (¬passes → no (.link link))
        ∧ (passes → s.lens.guardActive = true → no .guardActive)
        ∧ (passes → s.lens.guardActive = false → ¬still focus → no (.axis focus))
        ∧ (passes → s.lens.guardActive = false → still focus → ¬still iris → no (.axis iris)))
      ∧ (∀ hd, x.loader = .loaded ∨ x.loader = .done → x.header = some hd →
        (s.port p).link.state = .up ∨ (s.port p).link.state = .degraded →
        s.lens.guardActive = false →
        (s.port p).focus.state = .rest ∨ (s.port p).focus.state = .holding →
        (s.port p).iris.state = .rest ∨ (s.port p).iris.state = .holding → ∃ u,
        run = .next (replied h 0x10 (accepted []) u)
          ∧ (let y := (u.port p).scan
            y.loader = .running ∧ y.runNumber = (x.runNumber + 1) % 256 ∧ y.pass = some 1
              ∧ y.step = some 0 ∧ y.program = x.program
              ∧ y.back = some ⟨(s.port p).focus.p / 256, (s.port p).iris.p / 256⟩
              ∧ y.result.state = .running
              ∧ y.result.tallies = List.replicate hd.count ⟨0, 0, 0⟩)
          ∧ (u.port p).power = (s.port p).power ∧ u.claims = s.claims))
    ∧ (x.loader = .aborted → exec (.scanAbortClear h b) s
        = .next (replied h 0x11 (done []) (s.begun.modScan p fun x => { x with loader := .empty })))
    ∧ (x.loader ≠ .aborted →
        exec (.scanAbortClear h b) s = .next (replied h 0x11 (done []) s.begun))
    ∧ (∃ u, exec (.scanCancel h b) s = .next (replied h 0x12 (done []) u)
        ∧ (x.loader ≠ .running → (u.port p).scan = x)
        ∧ (x.loader = .running → (u.port p).scan.loader = .cancelled
            ∧ (u.port p).scan.result.reason = some .command
            ∧ (u.port p).scan.program = x.program ∧ (u.port p).scan.phase = none)
        ∧ (x.loader = .running → ∀ n, ((s.port p).axis n).source = .scan →
            (((s.port p).axis n).state.waiting = true → ((s.port p).axis n).staged = false →
              ((u.port p).axis n).state = .rest ∧ ((u.port p).axis n).allowance = 0
                ∧ ((u.port p).axis n).source = .command)
            ∧ (((s.port p).axis n).state = .moving → 0 < ((s.port p).axis n).v →
              ⟨p, n⟩ ∉ s.lens.waitList → (u.port p).axis n = { (s.port p).axis n with
                state := .stopping, stopKind := some .command, source := .command }))
        ∧ (u.port p).power = (s.port p).power ∧ u.claims = s.claims))
  ∧ (∀ (p : Port) (rows : BitVec 16) (c : Capture) (i k : Nat) (s : State), s.supplied = true →
    s.bounded = true → laneOpen s p = true → (s.port p).link.gate = .opened →
    (s.port p).exposure.origin = some (.scan c) → (s.port p).exposure.held = none →
    let x := (s.port p).scan
    x.loader = .running → x.phase = some .capture → c.run = x.runNumber → x.step = some i →
    x.pass = some k → i < x.result.tallies.length →
    let m := (s.port p).metric.close false
    let old : StepTally := x.result.tallies.getD i ⟨0, 0, 0⟩
    let new : StepTally := match m.metric with
      | some v => ⟨old.sum + v, old.number + 1, old.partials + if m.partialMark then 1 else 0⟩
      | none => old
    let res : ScanResult := { x.result with
      captures := x.result.captures + 1, passReached := k, stepReached := i
      tallies := x.result.tallies.set i new }
    let best := bestStep res.tallies
    let meanless : Bool := decide (∀ y ∈ res.tallies, y.number = 0)
    let free (n : AxisName) : Prop := ((s.port p).axis n).staged = false
      ∧ (((s.port p).axis n).state = .rest ∨ ((s.port p).axis n).state = .holding)
    let ready : Prop := s.lens.guardActive = false ∧ free .focus ∧ free .iris
    let aimed (t : State) (n : AxisName) (counts : Nat) : Prop :=
      let q := ((s.port p).axis n).params
      ((t.port p).axis n).t = clampTo q.lo q.hi counts * 256
    ∃ t, exec (.frameEnd p rows) s = .next t
      ∧ (t.port p).link.gate = .none ∧ (t.port p).power = (s.port p).power ∧ t.claims = s.claims
      ∧ (1 < x.counter →
          (t.port p).scan = { x with counter := x.counter - 1, result := res }
            ∧ (t.port p).exposure.state ≠ .idle
            ∧ (t.port p).exposure.origin = some (.scan ⟨x.runNumber, i, k, c.keep⟩)
            ∧ (t.port p).exposure.taken = holdInc 65535 (s.port p).exposure.taken)
      ∧ (x.counter ≤ 1 → i + 1 < x.result.count ∨ k < x.result.passes → ready →
          let next := if i + 1 < x.result.count then i + 1 else 0
          (t.port p).scan.loader = .running ∧ (t.port p).scan.step = some next
            ∧ (t.port p).scan.pass = some (if i + 1 < x.result.count then k else k + 1)
            ∧ (t.port p).scan.result = res
            ∧ aimed t .focus (x.program.getD next noStep).focus
            ∧ (∀ v, (x.program.getD next noStep).iris = some v → aimed t .iris v))
      ∧ (x.counter ≤ 1 → x.result.count ≤ i + 1 → x.result.passes ≤ k →
          let r := (t.port p).scan.result
          (x.result.loadedAction = .stay ∨ x.result.loadedAction = .best ∧ meanless = true →
            (t.port p).scan.loader = .done ∧ r = { res with
                state := .done, noMetric := meanless, takenAction := .stay }
              ∧ (t.events.getD 20 clearedEntry).detail = some (.scanDone none)
              ∧ (t.events.getD 20 clearedEntry).port = some p)
          ∧ (∀ q, x.result.loadedAction = .goBack → x.back = some q → ready →
            r.takenAction = .goBack ∧ r.tallies = res.tallies
              ∧ aimed t .focus q.focus ∧ aimed t .iris q.iris)
          ∧ (∀ j v, x.result.loadedAction = .best → best = some (j, v) → ready →
            r.takenAction = .best ∧ r.tallies = res.tallies
              ∧ aimed t .focus (x.program.getD j noStep).focus
              ∧ ∀ w, (x.program.getD j noStep).iris = some w → aimed t .iris w)))
  ∧ (∀ ts : List StepTally,
    let mean (j : Nat) : Option Nat := (ts[j]?).bind fun y =>
      if y.number = 0 then none else some (y.sum / y.number)
    (bestStep ts = none ↔ ∀ j, mean j = none)
      ∧ ∀ j v, bestStep ts = some (j, v) → mean j = some v
          ∧ ∀ i w, mean i = some w → w ≤ v ∧ (w = v → j ≤ i))

/-! ### The frame store and the frame out link -/

/-- R110, R112, R116, R117: FRAME_RELEASE frees a READY or SENT slot and no other, which the occupancy
loses, so that a TIGHT store at its LOW mark becomes OPEN with STORE_OPEN latched; it marks one that is
being sent. FRAME_RESEND queues a SENT slot again, and it waits or its send begins. A FILLING slot is busy,
and a FREE one is free. -/
def Obligations.SlotsAreReleasedAndResent : Prop :=
  ∀ (h : CmdHead) (b : Byte) (n : Nat) (s : State), s.takes h = true → slotArg b = some n →
    let x := s.slot n
    let release := exec (.frameRelease h b) s
    let resend := exec (.frameResend h b) s
    (x.state = .ready ∨ x.state = .sent → ∃ ans u,
      release = .next (replied h 0x14 ans u) ∧ ans.status = .done
        ∧ u.slot n = ⟨.free, none⟩ ∧ u.occupancy + 1 = s.occupancy
        ∧ (∀ m, m ≠ n → u.slot m = s.slot m)
        ∧ u.frames.outQueue
            = (if x.state = .ready then s.frames.outQueue.filter fun m => m != n
                else s.frames.outQueue)
        ∧ u.frames.tight = (if s.frames.tight = true then decide (s.img.lowMark < u.occupancy)
            else decide (s.img.highMark < u.occupancy))
        ∧ (s.bounded = true → s.frames.tight = true → u.occupancy ≤ s.img.lowMark →
            (u.events.getD 15 clearedEntry).detail = some (.occupancy u.occupancy)
              ∧ (u.events.getD 15 clearedEntry).port = none)
        ∧ u.outLink = s.outLink ∧ u.ports = s.ports ∧ u.claims = s.claims)
    ∧ (x.state = .sending → ∃ ans,
        release = .next (replied h 0x14 ans (s.begun.setSlot n ⟨.releasePending, x.record⟩))
          ∧ ans.status = .accepted)
    ∧ (x.state = .releasePending → ∃ ans,
        release = .next (replied h 0x14 ans s.begun) ∧ ans.status = .accepted)
    ∧ (x.state = .filling → release = .next (replied h 0x14 (refuse .slotBusy) s.begun)
        ∧ resend = .next (replied h 0x15 (refuse .slotBusy) s.begun))
    ∧ (x.state = .free → release = .next (replied h 0x14 (refuse .slotFree) s.begun)
        ∧ resend = .next (replied h 0x15 (refuse .slotFree) s.begun))
    ∧ (x.state = .ready ∨ x.state = .sending ∨ x.state = .releasePending →
        resend = .next (replied h 0x15 (done []) s.begun))
    ∧ (∀ r, x.state = .sent → x.record = some r → ∃ u,
        resend = .next (replied h 0x15 (done []) u)
          ∧ (s.outLink.state ≠ .up ∨ s.outLink.ready = false ∨ s.outLink.send ≠ none →
              u.slot n = ⟨.ready, some r⟩ ∧ u.frames.outQueue = s.frames.outQueue ++ [n]
                ∧ u.occupancy = s.occupancy)
          ∧ (s.outLink.state = .up → s.outLink.ready = true → s.outLink.send = none →
              s.frames.outQueue = [] →
              u.slot n = ⟨.sending, some { r with sendNumber := holdInc 255 r.sendNumber }⟩
                ∧ u.outLink.send = some ⟨n, .record, 0, false⟩))

/-- R111 to R115: the termination brings the frame out link to ALIGNING, and its alignment to UP; its loss
gives a send up, and the slot is first in the queue again, or freed where its release was asked for. READY
low keeps the next send from beginning and pauses one; READY high goes on with it, or begins the next. A
send's end leaves its slot SENT, or FREE where its release was asked for or the port releases by itself, the
store is judged by its water marks, and the next send begins where READY is high and a slot is queued. The
bytes sent before a pause are the row's operand, and a send goes on from its record to its pixel data as
time passes (the model's readings, log 20). -/
def Obligations.TheFrameOutLinkRuns : Prop :=
  ∀ s : State, s.supplied = true →
    let l := s.outLink
    let begins (n : Nat) (rest : List Nat) (r : SlotRecord) (t : State) : Prop :=
      t.outLink = { l with
          state := .up, ready := true, alignLeft := if l.state = .aligning then none else l.alignLeft
          send := some ⟨n, .record, 0, false⟩, begun := (l.begun + 1) % 65536 }
        ∧ t.frames.outQueue = rest
        ∧ t.slot n = ⟨.sending, some { r with sendNumber := holdInc 255 r.sendNumber }⟩
    (l.state = .absent → exec .terminationPresent s = .next { s with
      out := [.alignment]
      outLink := { l with terminated := true, state := .aligning, alignLeft := some 100 } })
    ∧ (l.send = none → exec .terminationLost s = .next { s.fresh with
        outLink := { l with terminated := false, state := .absent, alignLeft := none } })
    ∧ (∀ x, l.send = some x → ∃ t, exec .terminationLost s = .next t
        ∧ t.outLink = { l with
            terminated := false, state := .absent, alignLeft := none, send := none
            givenUp := holdInc 65535 l.givenUp }
        ∧ ((s.slot x.slot).state = .sending →
            t.slot x.slot = ⟨.ready, (s.slot x.slot).record⟩
              ∧ t.frames.outQueue = x.slot :: s.frames.outQueue ∧ t.occupancy = s.occupancy)
        ∧ ((s.slot x.slot).state = .releasePending → t.slot x.slot = ⟨.free, none⟩
            ∧ t.frames.outQueue = s.frames.outQueue ∧ t.occupancy + 1 = s.occupancy)
        ∧ (∀ m, m ≠ x.slot → t.slot m = s.slot m) ∧ t.ports = s.ports)
    ∧ (l.state = .aligning → s.frames.outQueue = [] → exec .alignEnd s = .next { s.fresh with
        outLink := { l with state := .up, alignLeft := none } })
    ∧ (∀ n rest r, l.state = .aligning → l.ready = true → l.send = none →
        s.frames.outQueue = n :: rest → s.slot n = ⟨.ready, some r⟩ →
        ∃ t, exec .alignEnd s = .next t ∧ begins n rest r t)
    ∧ (exec .readyLow s = .next { s.fresh with outLink := { l with ready := false } })
    ∧ (∀ x, l.send = some x → x.paused = true → exec .readyHigh s = .next { s with
        out := [.resumed x.slot (x.bytesSent + 1)]
        outLink := { l with ready := true, send := some { x with paused := false } } })
    ∧ (l.send = none → l.state ≠ .up ∨ s.frames.outQueue = [] → exec .readyHigh s
        = .next { s.fresh with outLink := { l with ready := true } })
    ∧ (∀ n rest r, l.send = none → l.state = .up → s.frames.outQueue = n :: rest →
        s.slot n = ⟨.ready, some r⟩ →
        ∃ t, exec .readyHigh s = .next t ∧ begins n rest r t ∧ ∀ m, m ≠ n → t.slot m = s.slot m)
    ∧ (∀ x y n rest r, l.send = some x → x.paused = false → l.state = .up → l.ready = true →
        s.frames.outQueue = n :: rest → s.slot n = ⟨.ready, some r⟩ →
        s.slot x.slot = ⟨.sending, some y⟩ →
        ∃ t, exec .sendEnd s = .next t ∧ begins n rest r t
          ∧ t.slot x.slot
              = (if s.img.autoRelease y.port = true then ⟨.free, none⟩ else ⟨.sent, some y⟩)
          ∧ ∀ m, m ≠ n → m ≠ x.slot → t.slot m = s.slot m)
    ∧ (∀ x n, l.send = some x → l.ready = false → 0 < n →
        exec (.sendPaused n) s = .next { s.fresh with outLink := { l with
          send := some { x with part := .pixels, bytesSent := n, paused := true } } })
    ∧ (∀ x r, l.send = some x → x.paused = false → s.slot x.slot = ⟨.sending, some r⟩ →
        s.img.autoRelease r.port = false → s.frames.outQueue = [] →
        ∃ t, exec .sendEnd s = .next t ∧ t.outLink = { l with send := none }
          ∧ t.slot x.slot = ⟨.sent, some r⟩ ∧ t.occupancy = s.occupancy
          ∧ (∀ m, m ≠ x.slot → t.slot m = s.slot m))
    ∧ (∀ x r, l.send = some x → x.paused = false → (s.slot x.slot).record = some r →
        (s.slot x.slot).state = .releasePending
          ∨ (s.slot x.slot).state = .sending ∧ s.img.autoRelease r.port = true →
        s.frames.outQueue = [] →
        ∃ t, exec .sendEnd s = .next t ∧ t.outLink = { l with send := none }
          ∧ t.slot x.slot = ⟨.free, none⟩ ∧ t.occupancy + 1 = s.occupancy
          ∧ t.frames.tight = (if s.frames.tight = true then decide (s.img.lowMark < t.occupancy)
              else decide (s.img.highMark < t.occupancy))
          ∧ (s.bounded = true → s.frames.tight = true → t.occupancy ≤ s.img.lowMark →
              (t.events.getD 15 clearedEntry).detail = some (.occupancy t.occupancy)))
    ∧ (∀ x r, s.pending = [] → l.send = some x → x.paused = false →
        (s.slot x.slot).record = some r → r.pixels ≠ [] →
        ∃ t, step s = .next t ∧ t.outLink.send = some { x with part := .pixels }
          ∧ t.frames = s.frames)

/-! ### The cable fault locator -/

/-- R11, R19, R140 to R142, R144, R145: a dark request makes a new gathering of an OFF port's cable, and of
a CLAIMING one's, whose power-on is withdrawn; one for a powered port needs the permission to power it off;
a live request needs a port that is ON. A request of either kind for a cable with a DARK entry is merged,
which the reply gives as 1 (R186): the entry gains the source, no entry is made and the window is not
restarted; so is a live request for one with a LIVE entry. A dark request for one with a LIVE entry is not
merged: without permission it is refused, and with it the port is made dark and a DARK entry takes the place
of the LIVE one, which ends CANCELLED. A cancel removes a live entry and one that gathers, with a CANCELLED
result, and no other. That a withdrawn claim in flight is marked so is the model's reading (log 36). -/
def Obligations.SweepCommandsAct : Prop :=
  ∀ (h : CmdHead) (b : Byte) (p : Port) (s : State), s.takes h = true → portArg b = some p →
    let st := (s.port p).power.state
    let cancelled (k : SweepKind) (u : State) : Prop :=
      u.entry? p k = none ∧ (u.port p).sweep.cls = .cancelled
        ∧ (u.port p).sweep.kind = some k ∧ (u.port p).power = (s.port p).power
        ∧ u.claims = s.claims
    (s.entry? p .dark = none → s.entry? p .live = none →
      (st = .off → ∀ ok, ok = 0 ∨ ok = 1 → ∃ ans u,
        exec (.sweepStart h b 1 ok) s = .next (replied h 0x19 ans u) ∧ ans.status = .accepted
          ∧ (u.entry? p .dark).map (fun e => (e.sources, e.status)) = some ([.command], .gathering)
          ∧ (∃ g, u.locator.gathering = some g ∧ p ∈ g.ports ∧ g.windowLeft = 250000)
          ∧ u.ports = s.ports ∧ u.claims = s.claims)
      ∧ (st.powered = true →
          (∃ u, exec (.sweepStart h b 1 0) s
              = .next (replied h 0x19 (refuse .portPowered) u)
            ∧ u.entry? p .dark = none ∧ u.ports = s.ports ∧ u.claims = s.claims)
          ∧ (∃ ans u, exec (.sweepStart h b 1 1) s = .next (replied h 0x19 ans u)
            ∧ ans.status = .accepted ∧ (u.entry? p .dark).isSome = true
            ∧ (u.port p).power.state = .off ∧ (u.port p).power.closed = false
            ∧ (u.port p).power.volatileLock = true))
      ∧ (st = .on → ∀ ok, ok = 0 ∨ ok = 1 → ∃ ans u,
          exec (.sweepStart h b 0 ok) s = .next (replied h 0x19 ans u) ∧ ans.status = .accepted
            ∧ (u.entry? p .live).isSome = true ∧ u.ports = s.ports ∧ u.claims = s.claims)
      ∧ (st ≠ .on → ∀ ok, ok = 0 ∨ ok = 1 →
          exec (.sweepStart h b 0 ok) s = .next (replied h 0x19 (refuse (.power st)) s.begun)))
    ∧ (s.entry? p .dark = none → s.entry? p .live = none → st = .claiming →
        ∀ ok, ok = 0 ∨ ok = 1 → ∃ ans u,
        exec (.sweepStart h b 1 ok) s = .next (replied h 0x19 ans u) ∧ ans.status = .accepted
          ∧ (u.entry? p .dark).map (fun e => (e.sources, e.status)) = some ([.command], .gathering)
          ∧ (u.port p).power = { (s.port p).power with state := .off }
          ∧ u.claims.queue = s.claims.queue.filter
              (fun q => !(q.port == p && q.kind == .powerOn))
          ∧ (∀ c, s.claims.inFlight = some c → c.req.port = p → c.req.kind = .powerOn →
              u.claims.inFlight = some { c with withdrawn := true })
          ∧ (s.bounded = true → (u.events.getD 3 clearedEntry).detail = some .withdrawn
              ∧ (u.events.getD 3 clearedEntry).port = some p))
    ∧ (∀ k ok, s.entry? p .dark ≠ none → k = 0 ∨ k = 1 → ok = 0 ∨ ok = 1 → ∃ ans u,
        exec (.sweepStart h b k ok) s = .next (replied h 0x19 ans u) ∧ ans.status = .accepted
          ∧ ans.results.take 1 = [1]
          ∧ u.entry? p .dark = (s.entry? p .dark).map (fun e => e.addSource .command)
          ∧ u.locator.work.length = s.locator.work.length
          ∧ u.locator.gathering = s.locator.gathering ∧ u.ports = s.ports ∧ u.claims = s.claims)
    ∧ (s.entry? p .dark = none → s.entry? p .live ≠ none →
      (∀ ok, ok = 0 ∨ ok = 1 → ∃ ans u,
        exec (.sweepStart h b 0 ok) s = .next (replied h 0x19 ans u) ∧ ans.status = .accepted
          ∧ ans.results.take 1 = [1]
          ∧ u.entry? p .live = (s.entry? p .live).map (fun e => e.addSource .command)
          ∧ u.locator.work.length = s.locator.work.length ∧ u.ports = s.ports
          ∧ u.claims = s.claims)
      ∧ (∃ u, exec (.sweepStart h b 1 0) s = .next (replied h 0x19 (refuse .portPowered) u)
          ∧ u.entry? p .dark = none ∧ (u.entry? p .live).isSome = true ∧ u.ports = s.ports
          ∧ u.claims = s.claims)
      ∧ (∃ ans u, exec (.sweepStart h b 1 1) s = .next (replied h 0x19 ans u)
          ∧ ans.status = .accepted ∧ u.entry? p .live = none
          ∧ (u.entry? p .dark).map (fun e => (e.sources, e.status))
              = some ([.command], .gathering)
          ∧ (u.port p).power.state = .off
          ∧ (st.powered = true → (u.port p).power.volatileLock = true)
          ∧ (u.port p).sweep.cls = .cancelled ∧ (u.port p).sweep.kind = some .live))
    ∧ (s.locator.work.find? (fun e => e.port == p) = none →
        exec (.sweepCancel h b) s = .next (replied h 0x1A (done []) s.begun))
    ∧ (∀ e, s.locator.work.find? (fun e => e.port == p) = some e →
      (e.kind = .dark → e.status ≠ .gathering →
        exec (.sweepCancel h b) s = .next (replied h 0x1A (refuse .sweepRunning) s.begun))
      ∧ (e.kind = .dark → e.status = .gathering → ∃ u,
        exec (.sweepCancel h b) s = .next (replied h 0x1A (done []) u) ∧ cancelled .dark u
          ∧ ∀ g, u.locator.gathering = some g → p ∉ g.ports)
      ∧ (e.kind = .live → ∃ u,
        exec (.sweepCancel h b) s = .next (replied h 0x1A (done []) u) ∧ cancelled .live u))

/-- R147, R148, R153, R154: an acquisition is accepted as the first of its sweep, or where no bin differs
from the last accepted trace by more than the limit; then it is added to the sums, counted and kept, and
ends the rejection run. Any other lengthens the run and is left out of the sums. The trace of a sweep is
searched for its first crossing: the first bin from the start of the search on that reaches the threshold
behind one below it. The class follows from it and the cable's end window; without one a dark cable shows no
end, and a live one nothing. rho is the truncated 1,000 times the trace over L, clamped. A calibration's
figures are the sixteenth of the sums rounded down, their mean over the last 256 bins, at least 1, and the
crossing of its half. -/
def Obligations.AcquisitionsAreJudged : Prop :=
  (∀ (limit : Nat) (r : SweepRec) (t : Trace),
    let near (l : Trace) : Prop := ∀ k (hk : k < l.length) (hk' : k < t.length),
      |(l[k]).toInt - (t[k]).toInt| ≤ (limit : Int)
    let taken : Prop := ∀ l, r.last = some l → near l
    let u := judgeTrace limit r t
    u.completed = r.completed + 1
      ∧ (taken → u.n = r.n + 1 ∧ u.last = some t ∧ u.rejections = 0
          ∧ (r.sums = [] → u.sums = t.map BitVec.toInt)
          ∧ (r.sums.length = t.length → u.sums.length = t.length
              ∧ ∀ k (hk : k < t.length),
                u.sums.getD k 0 = r.sums.getD k 0 + (t[k]).toInt))
      ∧ (¬taken → u.n = r.n ∧ u.last = r.last ∧ u.sums = r.sums
          ∧ u.rejections = r.rejections + 1))
  ∧ (∀ (thr : Int) (start : Nat) (trace : List Int),
    let at? (k : Nat) : Int := |trace.getD k 0|
    let crosses (k : Nat) : Prop :=
      1 ≤ k ∧ start ≤ k ∧ k < trace.length ∧ thr ≤ at? k ∧ at? (k - 1) < thr
    (findCrossing thr start trace = none ↔ ∀ k, ¬crosses k)
      ∧ ∀ x, findCrossing thr start trace = some x →
          crosses x.bin ∧ (∀ k, crosses k → x.bin ≤ k) ∧ x.at_ = at? x.bin
            ∧ x.before = at? (x.bin - 1)
            ∧ 16 * ((x.bin : Int) - 1) ≤ x.position thr ∧ x.position thr ≤ 16 * x.bin)
  ∧ (∀ (kind : SweepKind) (th length vf : Nat) (c : Calibration) (r : SweepRec),
    let trace := List.zipWith (fun s q => s / (r.n : Int) - q) r.sums c.q
    let thr := c.l * th / 1000
    let v := classify kind th length vf c r
    (findCrossing thr ((c.z / 16).toNat + 8) trace = none → v = match kind with
      | .dark => ⟨.noEnd, none, none, false⟩
      | .live => ⟨.none, none, none, false⟩)
    ∧ (∀ x, findCrossing thr ((c.z / 16).toNat + 8) trace = some x →
      ∃ d rho, v.distance = some d ∧ v.rho = some rho
        ∧ rho = max (-1000) (min 1000
            ((1000 * trace.getD (min (x.bin + 8) 2047) 0).tdiv c.l))
        ∧ (d : Int) = (if x.position thr < c.z then 0
            else (x.position thr - c.z) * 37474 * vf / 16000000)
        ∧ (let inside : Prop := length ≤ d + max 300 (length / 50)
          (v.endSeen = true ↔ inside)
          ∧ (¬inside → v.cls = if 600 ≤ rho then .opened else if rho ≤ -600 then .short else .step)
          ∧ (inside → kind = .live → v.cls = .none)
          ∧ (inside → kind = .dark → v.cls = if 600 ≤ rho then .none else .step))))
  ∧ (∀ traces : List Trace, let c := calibrate traces
    (traces ≠ [] → (∀ t ∈ traces, t.length = 2048) → c.q.length = 2048
        ∧ ∀ k, k < 2048 → c.q.getD k 0 = (traces.map fun t => (t.getD k 0).toInt).sum / 16)
      ∧ c.l = max 1 ((c.q.drop 1792).sum / 256)
      ∧ (findCrossing (c.l / 2) 1 c.q = none → c.z = 0)
      ∧ ∀ x, findCrossing (c.l / 2) 1 c.q = some x → c.z = 16 * ((x.bin : Int) - 1)
          + 16 * (c.l / 2 - x.before) / (x.at_ - x.before))

/-- R13, R14, R16, R20, R53 to R57, R143, R146 to R156: the locator's events. A window's end forms the
gathering's batch, which an idle engine takes; a session that calibrates or waits for its gap is set aside
for it, its record kept, and one in a piece at the piece's end. A calibration begins the batch's first
sweep, or lets the session ask for the cable, which is granted at once where link and port allow it: link
time is PIECE, QUIET goes to the head, and the first stimulus is launched; else it waits. A dark sweep goes
on to its sixty-fourth acquisition or its fourth rejection in a row, a piece to its fourth, or to an axis's
entry into WAIT_LINK. Then a dark sweep ends with its result, classified, or INCOMPLETE where rejections
left fewer than 4 (that a fourth rejection at the sixty-fourth acquisition counts as DISTURBED too is the
model's choice, log 46): NONE clears the volatile lockout and marks the cable clean, OPEN and SHORT set the
retained lockout with its record, and the batch goes on; behind it comes the next batch, the session set
aside, or IDLE. A live session ends with 16 acquisitions, or at its deadline with what it has,
SHORT_AVERAGED from 4 on, at its next calibration where it calibrates or is set aside, and INCOMPLETE below:
a live OPEN or SHORT takes a powered port down with the volatile lockout and asks for a dark sweep. An
abandoned piece stops with the release, and the held expose command goes out. That a new piece ends the
resumption check is the model's inference (log 14). -/
def Obligations.TheLocatorRuns : Prop :=
  ∀ s : State, s.supplied = true →
    let resultBy (c : Option Calibration) (k : SweepKind) (p : Port) (r : SweepRec)
        (short dist : Bool) : SweepResult :=
      match c with
      | some c =>
        let v := classify k s.img.threshold (s.img.cableLength p) (s.img.velocity p) c r
        ⟨some k, v.cls, v.distance, v.rho, r.n, short, dist, v.endSeen, s.hubTime⟩
      | none => ⟨some k, .incomplete, none, none, r.n, false, dist, false, s.hubTime⟩
    let result := resultBy s.locator.calibration
    let quiet (r : PortRec) : Prop := r.exposure.state = .idle
      ∧ ∀ n, (r.axis n).state ≠ .moving ∧ (r.axis n).state ≠ .stopping ∧ (r.axis n).state ≠ .waitLink
    let allowed (p : Port) : Prop :=
      let r := s.port p
      r.link.time = .free ∧ r.link.state ≠ .dark ∧ quiet r
        ∧ (∀ t, r.scan.settleLeft = some t → 2000 < t)
    let granted (se : Session) (out : List Out) (t : State) : Prop :=
      let l := (s.port se.port).link
      t.locator.engine = .piece { se with sweep := { se.sweep with rejections := 0 } } 1 true
        ∧ (t.port se.port).link = { l with time := .piece, waitEntered := false, resumeLeft := none }
        ∧ t.out = out ++ (if l.state = .training then [.pattern se.port false] else [])
            ++ [.quiet se.port, .stimulus se.port]
        ∧ (∀ p, (t.port p).power = (s.port p).power) ∧ (∀ a, t.axis a = s.axis a)
        ∧ t.claims = s.claims ∧ t.events = s.events
    let incomplete (se : Session) (t : State) : Prop :=
      (t.port se.port).sweep
          = ⟨some .live, .incomplete, none, none, se.sweep.n, false, false, false, s.hubTime⟩
        ∧ t.entry? se.port .live = none ∧ (∀ p, (t.port p).power = (s.port p).power)
    let ended (k : SweepKind) (p : Port) (res : SweepResult) (t : State) : Prop :=
      (t.port p).sweep = res ∧ t.entry? p k = none
        ∧ (s.bounded = true →
            (t.events.getD 22 clearedEntry).detail = some (.sweep k res.cls)
              ∧ (t.events.getD 22 clearedEntry).port = some p
              ∧ (res.cls = .opened ∨ res.cls = .short ∨ res.cls = .step →
                  (t.events.getD 23 clearedEntry).detail
                      = some (.fault res.cls (res.distance.getD 0))
                    ∧ (t.events.getD 23 clearedEntry).port = some p))
    let liveEnded (p : Port) (res : SweepResult) (t : State) : Prop :=
      ended .live p res t
        ∧ (res.cls = .opened ∨ res.cls = .short →
            (t.port p).power.volatileLock = true ∧ (t.entry? p .dark).isSome = true
              ∧ ((s.port p).power.state.powered = true → (t.port p).power.state = .off
                  ∧ (t.port p).power.closed = false ∧ (t.port p).link.state = .dark))
        ∧ (res.cls ≠ .opened → res.cls ≠ .short →
            (∀ q, (t.port q).power = (s.port q).power) ∧ t.claims = s.claims)
        ∧ (∀ o, o ≠ p → (t.port o).power = (s.port o).power)
    (∀ g, s.locator.gathering = some g → s.locator.formed = [] →
      ∃ t, exec .gatheringWindowExpiry s = .next t ∧ t.locator.gathering = none
        ∧ (let batch := allPorts.filter fun p => p ∈ g.ports
          (s.locator.engine = .idle → t.locator.engine = .calibratingBatch batch
            ∧ t.locator.formed = [] ∧ t.out = [.calibrating])
          ∧ (∀ se, s.locator.engine = .waitingGap se ∨ s.locator.engine = .calibratingSession se →
            t.locator.engine = .calibratingBatch batch ∧ t.locator.formed = []
              ∧ t.locator.setAside = some se ∧ t.locator.calibration = none
              ∧ t.out = [.calibrating]
              ∧ (t.entry? se.port .live).map (fun e => e.status)
                  = (s.entry? se.port .live).map (fun _ => .setAside))
          ∧ ((∃ a p c r, s.locator.engine = .darkRun a p c r)
              ∨ (∃ se n u, s.locator.engine = .piece se n u)
              ∨ (∃ ps, s.locator.engine = .calibratingBatch ps) →
            t.locator.formed = [batch] ∧ t.locator.engine = s.locator.engine))
        ∧ t.ports = s.ports ∧ t.claims = s.claims)
    ∧ (∀ traces p rest, s.locator.engine = .calibratingBatch (p :: rest) →
        ∃ t, exec (.calibrationComplete traces) s = .next t
          ∧ t.locator.engine = .darkRun [] p rest newSweep
          ∧ t.locator.calibration = some (calibrate traces)
          ∧ t.out = [.stimulus p] ∧ t.ports = s.ports ∧ t.claims = s.claims)
    ∧ (∀ traces se, s.locator.engine = .calibratingSession se → se.due = false →
        (allowed se.port → ∃ t, exec (.calibrationComplete traces) s = .next t ∧ granted se [] t
          ∧ t.locator.calibration = some (calibrate traces))
        ∧ (¬allowed se.port →
          exec (.calibrationComplete traces) s = .next { s.fresh with locator := { s.locator with
            calibration := some (calibrate traces), engine := .waitingGap se } }))
    ∧ (∀ se, s.locator.engine = .waitingGap se →
        (allowed se.port → granted se s.out (grantPiece s)) ∧ (¬allowed se.port → grantPiece s = s))
    ∧ (∀ traces se, s.locator.engine = .calibratingSession se → se.due = true →
        ∃ t, exec (.calibrationComplete traces) s = .next t ∧ liveEnded se.port
          (resultBy (some (calibrate traces)) .live se.port se.sweep true false) t)
    ∧ (∀ trace a p c r, s.locator.engine = .darkRun a p c r →
        let r' := judgeTrace s.img.disturbLimit r trace
        r.completed < 63 → r'.rejections < 4 →
        exec (.acquisitionComplete trace) s = .next { s with
          out := [.stimulus p]
          locator := { s.locator with engine := .darkRun a p c r' } })
    ∧ (∀ trace se n, s.locator.engine = .piece se n true →
        let sw := judgeTrace s.img.disturbLimit se.sweep trace
        sw.n < 16 → sw.rejections < 4 → n < 4 → (s.port se.port).link.time = .piece →
        (s.port se.port).link.waitEntered = false → quiet (s.port se.port) →
        exec (.acquisitionComplete trace) s = .next { s with
          out := [.stimulus se.port]
          locator := { s.locator with engine := .piece { se with sweep := sw } (n + 1) true } })
    ∧ (∀ trace se n, s.locator.engine = .piece se n true →
        let sw := judgeTrace s.img.disturbLimit se.sweep trace
        sw.n < 16 → (s.port se.port).link.time = .piece →
        4 ≤ sw.rejections ∨ 4 ≤ n ∨ (s.port se.port).link.waitEntered = true
          ∨ ¬quiet (s.port se.port) →
        ∃ t, exec (.acquisitionComplete trace) s = .next t
          ∧ Out.quietRelease se.port ∈ t.out
          ∧ (∀ se' n' u', t.locator.engine = .piece se' n' u' → n' = 1 ∧ u' = true)
          ∧ (s.locator.formed = [] → (t.port se.port).link.time = .free →
              t.locator.engine = .waitingGap { se with sweep := sw })
          ∧ (∀ b rest, s.locator.formed = b :: rest → t.locator.engine = .calibratingBatch b
              ∧ t.locator.formed = rest ∧ t.locator.setAside = some { se with sweep := sw })
          ∧ (∀ q, (t.port q).power = (s.port q).power) ∧ t.claims = s.claims)
    ∧ (∀ trace a p c r, s.locator.engine = .darkRun a p c r →
        let r' := judgeTrace s.img.disturbLimit r trace
        63 ≤ r.completed ∨ 4 ≤ r'.rejections →
        let dist : Bool := decide (r'.rejections = 4)
        let w := (s.port p).power
        let res : SweepResult := if r'.rejections = 4 ∧ r'.n < 4 then
            ⟨some .dark, .incomplete, none, none, r'.n, false, true, false, s.hubTime⟩
          else result .dark p r' false dist
        ∃ t, exec (.acquisitionComplete trace) s = .next t ∧ ended .dark p res t
          ∧ (res.cls = .none →
              (t.port p).power = { w with volatileLock := false, clean := true })
          ∧ (res.cls = .opened ∨ res.cls = .short →
              (t.port p).power.clean = false ∧ (t.port p).power.retainedLock = true
                ∧ (t.port p).power.volatileLock = w.volatileLock
                ∧ (w.retainedLock = false → (t.port p).power.pendingRecord = some .set
                    ∨ .lock p .set ∈ t.store.queue
                    ∨ ∃ n b, t.store.inFlight = some (.lock p ⟨.set, n⟩ b)))
          ∧ (res.cls = .step ∨ res.cls = .noEnd → (t.port p).power = { w with clean := false })
          ∧ (res.cls = .incomplete → (t.port p).power = w)
          ∧ (∀ q rest, c = q :: rest → t.locator.engine = .darkRun (a ++ [p]) q rest newSweep
              ∧ .stimulus q ∈ t.out)
          ∧ (c = [] → s.locator.formed = [] → s.locator.setAside = none → s.nextLive = none →
              t.locator.engine = .idle ∧ t.locator.calibration = none)
          ∧ (∀ se, c = [] → s.locator.formed = [] → s.locator.setAside = some se →
              t.locator.engine = .calibratingSession se ∧ t.locator.setAside = none
                ∧ t.locator.calibration = none)
          ∧ (∀ b rest, c = [] → s.locator.formed = b :: rest →
              t.locator.engine = .calibratingBatch b ∧ t.locator.formed = rest
                ∧ t.locator.calibration = none)
          ∧ (∀ o, (t.port o).power.state = (s.port o).power.state) ∧ t.claims = s.claims)
    ∧ (∀ trace se n, s.locator.engine = .piece se n true →
        let sw := judgeTrace s.img.disturbLimit se.sweep trace
        16 ≤ sw.n → ∃ t, exec (.acquisitionComplete trace) s = .next t
          ∧ liveEnded se.port (result .live se.port sw false false) t)
    ∧ (let run := exec .deadlineExpiry s
      (∀ se, s.locator.engine = .waitingGap se ∨ (∃ n u, s.locator.engine = .piece se n u) →
        ((s.port se.port).link.time = .piece → ∃ t, run = .next t ∧ .quietRelease se.port ∈ t.out)
        ∧ (4 ≤ se.sweep.n → ∃ t, run = .next t
          ∧ liveEnded se.port (result .live se.port se.sweep true false) t)
        ∧ (se.sweep.n < 4 → ∃ t, run = .next t ∧ incomplete se t
          ∧ t.locator.calibration = none))
      ∧ (∀ se, s.locator.engine = .calibratingSession se →
        (4 ≤ se.sweep.n → run = .next { s.fresh with locator := { s.locator with
          engine := .calibratingSession { se with deadline := 0, due := true } } })
        ∧ (se.sweep.n < 4 → ∃ t, run = .next t ∧ incomplete se t
          ∧ t.locator.calibration = none))
      ∧ (s.locator.engine.session? = none →
        (s.locator.setAside = none → run = .next s.fresh)
        ∧ (∀ se, s.locator.setAside = some se →
          (4 ≤ se.sweep.n → run = .next { s.fresh with locator := { s.locator with
            setAside := some { se with deadline := 0, due := true } } })
          ∧ (se.sweep.n < 4 → ∃ t, run = .next t ∧ incomplete se t
            ∧ t.locator.setAside = none ∧ t.locator.engine = s.locator.engine
            ∧ t.locator.calibration = s.locator.calibration))))
    ∧ (∀ p, (s.port p).link.time = .abandoning →
        ∃ t, exec (.abandonStop p) s = .next t ∧ (t.port p).link.time ≠ .abandoning
          ∧ (t.port p).link.heldExpose = false
          ∧ ((s.port p).link.heldExpose = true → (t.port p).exposure.state = .exposing
              ∧ (t.port p).exposure.sentAt = some s.hubTime)
          ∧ (t.port p).power = (s.port p).power ∧ t.claims = s.claims)

/-! ### Events, configuration and start -/

/-- R159, R176, R177, R178, R180, R181, R182: an occurrence is latched in its event's entry and in no other,
with its port, its detail, the hub time and the count, and its REPORT joins the transmit queue where the
report mask names it, or is counted as not sent (that the places waited for are not free for it is the model's
reading, log 11). The items of the image are those of the table of section 11.1, each with a place of its own,
and the blocks take them clamped into their ranges (the camera figure, the ROI and the lens parameters:
FigureIsAMultipleOfFifty, FramesAreReceived, LensCommandsAct); in a defaulted image they find the defaults of
the owning chapters. READ_EVENTS gives the latched entries in the order of the table, with port, detail, time
and count, and then the counters, and clears each latched entry that the keep mask does not hold or that is
named, and no other; that a cleared entry keeps its hub time (log 43), and that an entry is sent with its
detail as in a REPORT and the list with no count (R185, R186, log 9), are the model's choices. CONFIG_WRITE
changes the one item of the working copy and nothing in force, and gives the working value, the value in force
as it is stored (the model's choice, log 44), the operations queued and the newest generation written.
CONFIG_COMMIT takes the working copy as it stands into the store with the next generation, or is refused where
the operation queue is full; it gives its place as it joins, from 0 (the model's reading, log 24), its
generation, the operations queued and the newest generation written. -/
def Obligations.EventsAndItemsAreServed : Prop :=
  (∀ (e : EventName) (port : Option Port) (d : Detail) (s : State),
    let n := holdInc 255 (s.events.getD e.index clearedEntry).count
    let reported : Bool := (s.img.item 10 0).testBit e.index
    let outside := s.claimReady.toNat + s.claims.standingWanted.toNat + s.line.held.isSome.toNat
    let place : Prop := s.muted = false ∧ s.line.queue.length + outside < 16
    let u : State := { s with
      events := s.events.set e.index ⟨true, port, some d, s.hubTime, n⟩ }
    (reported = false → s.latch e port d = u)
    ∧ (reported = true → place →
      s.latch e port d = u.joinTx (.report ⟨e, port, d, s.hubTime, n⟩))
    ∧ (reported = true → ¬place → s.latch e port d = { u with line := { s.line with
        counters := { s.line.counters with
          reportsNotSent := holdInc 65535 s.line.counters.reportsNotSent } } }))
  ∧ (∀ item index : Nat, let place := itemPlace item index
    (place.isSome = true ↔ index = 0 ∧ 1 ≤ item ∧ item ≤ 11 ∨ index < 4 ∧ item = 12
        ∨ index < 2 ∧ item = 13 ∨ index < 4 ∧ 16 ≤ item ∧ item ≤ 31
        ∨ index < 8 ∧ 32 ≤ item ∧ item ≤ 46)
    ∧ (∀ item' index', place.isSome = true → place = itemPlace item' index' →
        item = item' ∧ index = index')
    ∧ (∀ k, place = some k → k < 201 ∧ ∀ img : ConfigImage, img.item item index = (img.getD k 0).toNat))
  ∧ (∀ (img : ConfigImage) (p : Port),
    let within (lo hi item index : Nat) : Nat := max lo (min (img.item item index) hi)
    let line (item index : Nat) : Option Nat :=
      if img.item item index < 16 then some (img.item item index) else none
    img.lensReserve = within 0 3000 1 0 ∧ img.cellBudget = within 500 60000 2 0
    ∧ img.errHigh = within 1 1000 3 0 ∧ img.errLow = min (within 0 1000 4 0) img.errHigh
    ∧ img.dfreeze = within 0 4095 5 0 ∧ img.highMark = within 1 31 6 0
    ∧ img.lowMark = min (img.item 7 0) (img.highMark - 1)
    ∧ img.threshold = within 1 1000 8 0 ∧ img.disturbLimit = within 1 4095 9 0
    ∧ (∀ i : Fin 2, (img.senseLine i).map (fun l => l.val) = line 13 i)
    ∧ (img.subscribed p).map (fun l => l.val) = line 19 p
    ∧ (img.enabled p = true ↔ img.item 16 p ≠ 0) ∧ img.surcharge p = within 0 1000 18 p
    ∧ img.triggerDelay p = within 0 65535 20 p ∧ (img.policyWait p = true ↔ img.item 21 p ≠ 0)
    ∧ img.deferLimit p = within 0 255 22 p ∧ img.exposeTimeout p = within 10 1000 23 p
    ∧ (img.lowPriority p = true ↔ img.item 24 p ≠ 0)
    ∧ (img.autoRelease p = true ↔ img.item 25 p ≠ 0)
    ∧ img.cableLength p = within 1000 100000 30 p ∧ img.velocity p = within 500 900 31 p)
  ∧ (let d := defaultImage
    d.lensReserve = 0 ∧ d.cellBudget = 500 ∧ d.errHigh = 16 ∧ d.errLow = 2 ∧ d.dfreeze = 512
    ∧ d.highMark = 28 ∧ d.lowMark = 20 ∧ d.threshold = 150 ∧ d.disturbLimit = 256
    ∧ (∀ i, d.senseLine i = none)
    ∧ (∀ e : EventName, d.reported e = true ↔ e ∈ [EventName.portTripped, .openSuspect, .portShed,
        .powerDenied, .faultFound, .started])
    ∧ (∀ e : EventName, d.kept e = true ↔ e ∈ [EventName.started, .cellOver])
    ∧ (∀ (i : Fin 4) (e : EventName), d.watches i e.index = true ↔ e ∈ (match i with
        | 0 => [EventName.portTripped, .openSuspect, .portShed, .powerDenied, .cellOver]
        | 1 => [.linkDown, .linkDegraded, .trainingTimeout, .sweepDone, .faultFound]
        | 2 => [.triggerGap, .triggerMissed, .senseOverrun, .exposeTimeout, .frameDropped, .storeTight]
        | 3 => [.lensEndStop, .lensLost, .lensFrozen, .scanAborted, .started]))
    ∧ (∀ p, d.enabled p = false ∧ d.surcharge p = 500 ∧ d.subscribed p = none
      ∧ d.triggerDelay p = 0 ∧ d.policyWait p = false ∧ d.deferLimit p = 50
      ∧ d.exposeTimeout p = 200 ∧ d.lowPriority p = false ∧ d.autoRelease p = false
      ∧ d.roi p = none ∧ d.cableLength p = 15000 ∧ d.velocity p = 660)
    ∧ ∀ a, d.params a = ⟨0, 65535, 1024, 0, 64, 0, 0, 256, 256, 0, 200, 50, 500, 64, 32⟩)
  ∧ ∀ (h : CmdHead) (s : State), s.takes h = true →
    let entries : List Byte := (List.range s.events.length).flatMap fun k =>
      let e := s.events.getD k clearedEntry
      if e.latched = true then
        [BitVec.ofNat 8 (k + 1)] ++ portByte e.port
          ++ padTo 6 (match e.detail with | some d => detailBytes d | none => [])
          ++ beBytes 4 e.time ++ [BitVec.ofNat 8 e.count]
      else []
    let c := s.line.counters
    let counts : List Byte := [c.rxErrors, c.undefinedKinds, c.sameNumber, c.arbLosses, c.txFailures,
      c.mutes, c.reportsNotSent, c.repliesNotSent, (s.commands.taken + 1) % 65536,
      s.commands.overflows].flatMap (beBytes 2)
    (∀ release : BitVec 32, release.toNat < 2 ^ 25 → ∃ ans es,
      exec (.readEvents h release) s = .next (replied h 0x1C ans { s.begun with events := es })
        ∧ ans.status = .done ∧ es.length = s.events.length
        ∧ ans.results = entries ++ counts
        ∧ ∀ k, k < s.events.length →
          let e := s.events.getD k clearedEntry
          let gone : Prop := e.latched = true
            ∧ ((s.img.item 11 0).testBit k = false ∨ release.toNat.testBit k = true)
          es.getD k clearedEntry
            = if gone then { e with latched := false, port := none, detail := none, count := 0 }
              else e)
    ∧ (∀ (item index : Byte) (value : BitVec 32),
      (itemPlace item.toNat index.toNat = none → exec (.configWrite h item index value) s
          = .next (replied h 0x1D (refuse .badArgument) s.begun))
      ∧ (∀ k, itemPlace item.toNat index.toNat = some k → ∃ ans,
          exec (.configWrite h item index value) s = .next (replied h 0x1D ans
              { s.begun with store := { s.store with working := s.store.working.set k value } })
            ∧ ans.status = .done ∧ (k < s.store.working.length → ans.results = [item, index]
                ++ beBytes 4 value.toNat ++ beBytes 4 (s.img.getD k 0).toNat
                ++ [BitVec.ofNat 8 s.store.queue.length] ++ optBytes 2 s.store.newestWritten)))
    ∧ (4 ≤ s.store.queue.length →
        exec (.configCommit h) s = .next (replied h 0x1E (refuse .storeBusy) s.begun))
    ∧ (s.store.queue.length < 4 → ∃ ans u,
        exec (.configCommit h) s = .next (replied h 0x1E ans u) ∧ ans.status = .accepted
          ∧ (let g := match s.store.lastGeneration with
              | some g => (g + 1) % 65536
              | none => 0
            u.store.lastGeneration = some g
              ∧ ans.results = [BitVec.ofNat 8 s.store.queue.length] ++ beBytes 2 g
                  ++ [BitVec.ofNat 8 u.store.queue.length] ++ optBytes 2 s.store.newestWritten
              ∧ (s.store.queue = [] → s.store.inFlight = none → (∀ p,
                  (s.port p).power.pendingRecord = none) →
                u.store.inFlight = some (.image ⟨g, s.store.working⟩
                    (s.nv.image.writesSecond ImageCopy.generation))
                  ∧ u.store.queue = [])
              ∧ (s.store.inFlight ≠ none →
                .image ⟨g, s.store.working⟩ ∈ u.store.queue))
          ∧ u.store.working = s.store.working ∧ u.store.inForce = s.store.inForce
          ∧ u.nv = s.nv ∧ u.claims = s.claims)

/-- R15, R180, R183: an operation writes the place that does not hold the newer copy: cut short, it leaves
the newest copy what it was; written whole with the next number, it becomes the newest. So it is with a
port's lockout records, and the lockout that a start takes from them stays as it was, or becomes the one
written. (Of two records neither one more than the other, the higher serial counts as the newer: the model's
choice, log 22. There a write cut short may change what a start takes, and no clause here says that it does
not.) At its end an operation that reads back as written is in its place, and an image counts as fully
written; one that does not leaves its place torn and is not counted. Every other place stays as it was, and
the next operation begins. -/
def Obligations.TheNewestCopyIsNeverLost : Prop :=
  (∀ (q : Places ImageCopy) (c : ImageCopy),
    let second := q.writesSecond ImageCopy.generation
    let newest (r : Places ImageCopy) : Option ImageCopy := r.newest ImageCopy.generation
    newest (q.put second .torn) = newest q ∧ newest (q.put second .blank) = newest q
      ∧ (∀ b, newest q = some b → c.generation = (b.generation + 1) % 65536 →
          newest (q.put second (.valid c)) = some c)
      ∧ (newest q = none → newest (q.put second (.valid c)) = some c))
  ∧ (∀ (p : Port) (m : LockMark) (nv : Nonvolatile),
    let q := nv.locks.get p
    let newest (r : Places LockCopy) : Option LockCopy := r.newest LockCopy.serial
    let next : Nat := match newest q with
      | some b => (b.serial + 1) % 65536
      | none => 0
    let apart : Prop := ∃ a b, q.first = .valid a ∧ q.second = .valid b
      ∧ b.serial ≠ (a.serial + 1) % 65536 ∧ a.serial ≠ (b.serial + 1) % 65536
    ∃ second, (StoreOp.lock p m).start nv = .lock p ⟨m, next⟩ second
      ∧ (second = true ↔ ∃ a, q.first = .valid a ∧ newest q = some a
          ∧ ∀ b, q.second = .valid b → b.serial ≠ a.serial)
      ∧ newest (q.put second .torn) = newest q ∧ newest (q.put second .blank) = newest q
      ∧ (¬apart → (q.put second .torn).retained = q.retained
          ∧ (q.put second .blank).retained = q.retained)
      ∧ newest (q.put second (.valid ⟨m, next⟩)) = some ⟨m, next⟩
      ∧ (q.put second (.valid ⟨m, next⟩)).retained = decide (m = .set))
  ∧ (∀ (ok : Bool) (s : State), s.supplied = true →
    (s.store.inFlight = none → exec (.storeWriteEnd ok) s = .next s.fresh)
    ∧ (∀ w, s.store.inFlight = some w → ∃ t, exec (.storeWriteEnd ok) s = .next t
      ∧ (∀ c second, w = .image c second →
          t.nv = { s.nv with image := s.nv.image.put second (if ok then .valid c else .torn) }
            ∧ t.store.newestWritten = (if ok then some c.generation else s.store.newestWritten))
      ∧ (∀ p c second, w = .lock p c second →
          t.nv.image = s.nv.image
            ∧ t.nv.locks.get p
                = (s.nv.locks.get p).put second (if ok then .valid c else .torn)
            ∧ (∀ o, o ≠ p → t.nv.locks.get o = s.nv.locks.get o)
            ∧ t.store.newestWritten = s.store.newestWritten)
      ∧ (∀ op rest, s.store.queue = op :: rest →
          t.store.inFlight = some (op.start t.nv))
      ∧ t.store.working = s.store.working ∧ t.store.inForce = s.store.inForce
      ∧ t.store.lastGeneration = s.store.lastGeneration ∧ t.claims = s.claims
      ∧ t.events = s.events ∧ t.frames = s.frames
      ∧ (∀ p, (t.port p).power.state = (s.port p).power.state
          ∧ (t.port p).power.retainedLock = (s.port p).power.retainedLock)))

/-! ### Safe runs -/

/-- The hub is safe right after reset, no lens allowance is out, no lockout is set on a port that is not OFF,
and every table stands in its order. -/
def Obligations.ResetIsSafe : Prop :=
  State.reset.safe = true ∧ State.reset.reserveKept = true ∧ State.reset.locksHold = true
    ∧ State.reset.ordered = true ∧ State.reset.slotsOrdered = true ∧ State.reset.queueOrdered = true

/-- R3, R4, R139, R141, section 1.1: at every step a port's switch stays closed exactly while the port is
powered. And at every step a port that is not OFF has neither lockout set and no DARK entry, so that no
switch is closed while a lockout is set, as long as the work list holds at most one entry for each port and
a DARK one exactly for a port that a batch holds. -/
def Obligations.StepsKeepSwitchesMatched : Prop :=
  ∀ s t : State, step s = .next t →
    (s.switchesMatch = true → t.switchesMatch = true) ∧ (s.locksHold = true → t.locksHold = true)

/-- R1, R24, R25, R30, R33, R34, R85, R100, R103, R104, R109, R124, R160, R165, R169, R175, R183: every step
keeps within the sizes the spec gives them: the slots, the event entries, the lines, the transmit queue, the
receive buffer, the operation queue, the missed records and the sample histories; in order and within its
size, one request for each port, the claim queue, one entry for each station with the own one among them, the
cell view, and each port's scan program; the outbound queue as exactly the READY slots, each once; and the
transmit queue in order of kind, with one notice in an attempt while one is on the line, at most one STANDING
that waits and at most one CLAIM, that of the claim in flight. (A request in the claim queue stands for its
port, or its port is OFF: MUTE has put a withdrawn one back; and the port of a claim withdrawn in flight is
OFF, or a newer request of it waits: log 36. The power wait list, R60, is in StepsKeepTheReserve, and the work
list, R139, in StepsKeepSwitchesMatched.) -/
def Obligations.StepsKeepTheSizes : Prop :=
  ∀ s t : State, step s = .next t →
    (s.bounded = true → t.bounded = true) ∧ (s.ordered = true → t.ordered = true)
      ∧ (s.slotsOrdered = true → t.slotsOrdered = true)
      ∧ (s.queueOrdered = true → t.queueOrdered = true)

/-- R22, R27, R30, R31: at every step the granted standing covers what the powered ports require, and
reserve is held exactly while a port is powered. -/
def Obligations.StepsKeepTheStandingCovered : Prop :=
  ∀ s t : State, s.covered = true → step s = .next t → t.covered = true

/-- R31, R60, R63, R67, R68: at every step the lens allowances stay within the reserve the cell has granted,
and the power wait list holds each axis that waits for a share of it once, 8 at most. What stays on the list
keeps its order and what joins it stands behind, in every event in which no earlier command waits in the
receive buffer (with one, an axis may leave the list and join it again). -/
def Obligations.StepsKeepTheReserve : Prop :=
  ∀ s t : State, s.reserveKept = true → step s = .next t →
    t.reserveKept = true ∧ t.lens.waitList.length ≤ 8
      ∧ (s.commands.buffer = [] → s.keepsArrivals t = true)

/-- From a safe state every run is safe, whatever commands wait: no step stops, and every state is safe. -/
def Obligations.SafeStatesRunSafely : Prop := ∀ s : State, s.safe = true → SafeRun s
end

