-- ==== Sys2Proof/Laws/State.lean ====
section
/-! SUPPORT. The small lemmas of the shared operations of Ops.lean: one for each field each update leaves alone, and what the ports read after one. -/

namespace Sys2Proof.Machine

/-! ### An event's fresh outputs -/

@[simp] theorem State.fresh_supplied (s : State) : (s.fresh).supplied = s.supplied := rfl
@[simp] theorem State.fresh_straps (s : State) : (s.fresh).straps = s.straps := rfl
@[simp] theorem State.fresh_station (s : State) : (s.fresh).station = s.station := rfl
@[simp] theorem State.fresh_hubTime (s : State) : (s.fresh).hubTime = s.hubTime := rfl
@[simp] theorem State.fresh_freeCount (s : State) : (s.fresh).freeCount = s.freeCount := rfl
@[simp] theorem State.fresh_ports (s : State) : (s.fresh).ports = s.ports := rfl
@[simp] theorem State.fresh_claims (s : State) : (s.fresh).claims = s.claims := rfl
@[simp] theorem State.fresh_view (s : State) : (s.fresh).view = s.view := rfl
@[simp] theorem State.fresh_lens (s : State) : (s.fresh).lens = s.lens := rfl
@[simp] theorem State.fresh_triggers (s : State) : (s.fresh).triggers = s.triggers := rfl
@[simp] theorem State.fresh_frames (s : State) : (s.fresh).frames = s.frames := rfl
@[simp] theorem State.fresh_outLink (s : State) : (s.fresh).outLink = s.outLink := rfl
@[simp] theorem State.fresh_locator (s : State) : (s.fresh).locator = s.locator := rfl
@[simp] theorem State.fresh_line (s : State) : (s.fresh).line = s.line := rfl
@[simp] theorem State.fresh_commands (s : State) : (s.fresh).commands = s.commands := rfl
@[simp] theorem State.fresh_events (s : State) : (s.fresh).events = s.events := rfl
@[simp] theorem State.fresh_nv (s : State) : (s.fresh).nv = s.nv := rfl
@[simp] theorem State.fresh_store (s : State) : (s.fresh).store = s.store := rfl
@[simp] theorem State.fresh_pending (s : State) : (s.fresh).pending = s.pending := rfl

/-! ### Port and axis updates touch the port records alone -/

@[simp] theorem State.setPort_supplied (s : State) (p : Port) (r : PortRec) :
    (s.setPort p r).supplied = s.supplied := rfl
@[simp] theorem State.setPort_straps (s : State) (p : Port) (r : PortRec) :
    (s.setPort p r).straps = s.straps := rfl
@[simp] theorem State.setPort_station (s : State) (p : Port) (r : PortRec) :
    (s.setPort p r).station = s.station := rfl
@[simp] theorem State.setPort_hubTime (s : State) (p : Port) (r : PortRec) :
    (s.setPort p r).hubTime = s.hubTime := rfl
@[simp] theorem State.setPort_freeCount (s : State) (p : Port) (r : PortRec) :
    (s.setPort p r).freeCount = s.freeCount := rfl
@[simp] theorem State.setPort_claims (s : State) (p : Port) (r : PortRec) :
    (s.setPort p r).claims = s.claims := rfl
@[simp] theorem State.setPort_view (s : State) (p : Port) (r : PortRec) :
    (s.setPort p r).view = s.view := rfl
@[simp] theorem State.setPort_lens (s : State) (p : Port) (r : PortRec) :
    (s.setPort p r).lens = s.lens := rfl
@[simp] theorem State.setPort_triggers (s : State) (p : Port) (r : PortRec) :
    (s.setPort p r).triggers = s.triggers := rfl
@[simp] theorem State.setPort_frames (s : State) (p : Port) (r : PortRec) :
    (s.setPort p r).frames = s.frames := rfl
@[simp] theorem State.setPort_outLink (s : State) (p : Port) (r : PortRec) :
    (s.setPort p r).outLink = s.outLink := rfl
@[simp] theorem State.setPort_locator (s : State) (p : Port) (r : PortRec) :
    (s.setPort p r).locator = s.locator := rfl
@[simp] theorem State.setPort_line (s : State) (p : Port) (r : PortRec) :
    (s.setPort p r).line = s.line := rfl
@[simp] theorem State.setPort_commands (s : State) (p : Port) (r : PortRec) :
    (s.setPort p r).commands = s.commands := rfl
@[simp] theorem State.setPort_events (s : State) (p : Port) (r : PortRec) :
    (s.setPort p r).events = s.events := rfl
@[simp] theorem State.setPort_nv (s : State) (p : Port) (r : PortRec) :
    (s.setPort p r).nv = s.nv := rfl
@[simp] theorem State.setPort_store (s : State) (p : Port) (r : PortRec) :
    (s.setPort p r).store = s.store := rfl
@[simp] theorem State.setPort_out (s : State) (p : Port) (r : PortRec) :
    (s.setPort p r).out = s.out := rfl
@[simp] theorem State.setPort_pending (s : State) (p : Port) (r : PortRec) :
    (s.setPort p r).pending = s.pending := rfl
@[simp] theorem State.modPort_supplied (s : State) (p : Port) (f : PortRec → PortRec) :
    (s.modPort p f).supplied = s.supplied := rfl
@[simp] theorem State.modPort_straps (s : State) (p : Port) (f : PortRec → PortRec) :
    (s.modPort p f).straps = s.straps := rfl
@[simp] theorem State.modPort_station (s : State) (p : Port) (f : PortRec → PortRec) :
    (s.modPort p f).station = s.station := rfl
@[simp] theorem State.modPort_hubTime (s : State) (p : Port) (f : PortRec → PortRec) :
    (s.modPort p f).hubTime = s.hubTime := rfl
@[simp] theorem State.modPort_freeCount (s : State) (p : Port) (f : PortRec → PortRec) :
    (s.modPort p f).freeCount = s.freeCount := rfl
@[simp] theorem State.modPort_claims (s : State) (p : Port) (f : PortRec → PortRec) :
    (s.modPort p f).claims = s.claims := rfl
@[simp] theorem State.modPort_view (s : State) (p : Port) (f : PortRec → PortRec) :
    (s.modPort p f).view = s.view := rfl
@[simp] theorem State.modPort_lens (s : State) (p : Port) (f : PortRec → PortRec) :
    (s.modPort p f).lens = s.lens := rfl
@[simp] theorem State.modPort_triggers (s : State) (p : Port) (f : PortRec → PortRec) :
    (s.modPort p f).triggers = s.triggers := rfl
@[simp] theorem State.modPort_frames (s : State) (p : Port) (f : PortRec → PortRec) :
    (s.modPort p f).frames = s.frames := rfl
@[simp] theorem State.modPort_outLink (s : State) (p : Port) (f : PortRec → PortRec) :
    (s.modPort p f).outLink = s.outLink := rfl
@[simp] theorem State.modPort_locator (s : State) (p : Port) (f : PortRec → PortRec) :
    (s.modPort p f).locator = s.locator := rfl
@[simp] theorem State.modPort_line (s : State) (p : Port) (f : PortRec → PortRec) :
    (s.modPort p f).line = s.line := rfl
@[simp] theorem State.modPort_commands (s : State) (p : Port) (f : PortRec → PortRec) :
    (s.modPort p f).commands = s.commands := rfl
@[simp] theorem State.modPort_events (s : State) (p : Port) (f : PortRec → PortRec) :
    (s.modPort p f).events = s.events := rfl
@[simp] theorem State.modPort_nv (s : State) (p : Port) (f : PortRec → PortRec) :
    (s.modPort p f).nv = s.nv := rfl
@[simp] theorem State.modPort_store (s : State) (p : Port) (f : PortRec → PortRec) :
    (s.modPort p f).store = s.store := rfl
@[simp] theorem State.modPort_out (s : State) (p : Port) (f : PortRec → PortRec) :
    (s.modPort p f).out = s.out := rfl
@[simp] theorem State.modPort_pending (s : State) (p : Port) (f : PortRec → PortRec) :
    (s.modPort p f).pending = s.pending := rfl
@[simp] theorem State.modPower_supplied (s : State) (p : Port) (f : PowerPart → PowerPart) :
    (s.modPower p f).supplied = s.supplied := rfl
@[simp] theorem State.modPower_straps (s : State) (p : Port) (f : PowerPart → PowerPart) :
    (s.modPower p f).straps = s.straps := rfl
@[simp] theorem State.modPower_station (s : State) (p : Port) (f : PowerPart → PowerPart) :
    (s.modPower p f).station = s.station := rfl
@[simp] theorem State.modPower_hubTime (s : State) (p : Port) (f : PowerPart → PowerPart) :
    (s.modPower p f).hubTime = s.hubTime := rfl
@[simp] theorem State.modPower_freeCount (s : State) (p : Port) (f : PowerPart → PowerPart) :
    (s.modPower p f).freeCount = s.freeCount := rfl
@[simp] theorem State.modPower_claims (s : State) (p : Port) (f : PowerPart → PowerPart) :
    (s.modPower p f).claims = s.claims := rfl
@[simp] theorem State.modPower_view (s : State) (p : Port) (f : PowerPart → PowerPart) :
    (s.modPower p f).view = s.view := rfl
@[simp] theorem State.modPower_lens (s : State) (p : Port) (f : PowerPart → PowerPart) :
    (s.modPower p f).lens = s.lens := rfl
@[simp] theorem State.modPower_triggers (s : State) (p : Port) (f : PowerPart → PowerPart) :
    (s.modPower p f).triggers = s.triggers := rfl
@[simp] theorem State.modPower_frames (s : State) (p : Port) (f : PowerPart → PowerPart) :
    (s.modPower p f).frames = s.frames := rfl
@[simp] theorem State.modPower_outLink (s : State) (p : Port) (f : PowerPart → PowerPart) :
    (s.modPower p f).outLink = s.outLink := rfl
@[simp] theorem State.modPower_locator (s : State) (p : Port) (f : PowerPart → PowerPart) :
    (s.modPower p f).locator = s.locator := rfl
@[simp] theorem State.modPower_line (s : State) (p : Port) (f : PowerPart → PowerPart) :
    (s.modPower p f).line = s.line := rfl
@[simp] theorem State.modPower_commands (s : State) (p : Port) (f : PowerPart → PowerPart) :
    (s.modPower p f).commands = s.commands := rfl
@[simp] theorem State.modPower_events (s : State) (p : Port) (f : PowerPart → PowerPart) :
    (s.modPower p f).events = s.events := rfl
@[simp] theorem State.modPower_nv (s : State) (p : Port) (f : PowerPart → PowerPart) :
    (s.modPower p f).nv = s.nv := rfl
@[simp] theorem State.modPower_store (s : State) (p : Port) (f : PowerPart → PowerPart) :
    (s.modPower p f).store = s.store := rfl
@[simp] theorem State.modPower_out (s : State) (p : Port) (f : PowerPart → PowerPart) :
    (s.modPower p f).out = s.out := rfl
@[simp] theorem State.modPower_pending (s : State) (p : Port) (f : PowerPart → PowerPart) :
    (s.modPower p f).pending = s.pending := rfl
@[simp] theorem State.modLink_supplied (s : State) (p : Port) (f : LinkPart → LinkPart) :
    (s.modLink p f).supplied = s.supplied := rfl
@[simp] theorem State.modLink_straps (s : State) (p : Port) (f : LinkPart → LinkPart) :
    (s.modLink p f).straps = s.straps := rfl
@[simp] theorem State.modLink_station (s : State) (p : Port) (f : LinkPart → LinkPart) :
    (s.modLink p f).station = s.station := rfl
@[simp] theorem State.modLink_hubTime (s : State) (p : Port) (f : LinkPart → LinkPart) :
    (s.modLink p f).hubTime = s.hubTime := rfl
@[simp] theorem State.modLink_freeCount (s : State) (p : Port) (f : LinkPart → LinkPart) :
    (s.modLink p f).freeCount = s.freeCount := rfl
@[simp] theorem State.modLink_claims (s : State) (p : Port) (f : LinkPart → LinkPart) :
    (s.modLink p f).claims = s.claims := rfl
@[simp] theorem State.modLink_view (s : State) (p : Port) (f : LinkPart → LinkPart) :
    (s.modLink p f).view = s.view := rfl
@[simp] theorem State.modLink_lens (s : State) (p : Port) (f : LinkPart → LinkPart) :
    (s.modLink p f).lens = s.lens := rfl
@[simp] theorem State.modLink_triggers (s : State) (p : Port) (f : LinkPart → LinkPart) :
    (s.modLink p f).triggers = s.triggers := rfl
@[simp] theorem State.modLink_frames (s : State) (p : Port) (f : LinkPart → LinkPart) :
    (s.modLink p f).frames = s.frames := rfl
@[simp] theorem State.modLink_outLink (s : State) (p : Port) (f : LinkPart → LinkPart) :
    (s.modLink p f).outLink = s.outLink := rfl
@[simp] theorem State.modLink_locator (s : State) (p : Port) (f : LinkPart → LinkPart) :
    (s.modLink p f).locator = s.locator := rfl
@[simp] theorem State.modLink_line (s : State) (p : Port) (f : LinkPart → LinkPart) :
    (s.modLink p f).line = s.line := rfl
@[simp] theorem State.modLink_commands (s : State) (p : Port) (f : LinkPart → LinkPart) :
    (s.modLink p f).commands = s.commands := rfl
@[simp] theorem State.modLink_events (s : State) (p : Port) (f : LinkPart → LinkPart) :
    (s.modLink p f).events = s.events := rfl
@[simp] theorem State.modLink_nv (s : State) (p : Port) (f : LinkPart → LinkPart) :
    (s.modLink p f).nv = s.nv := rfl
@[simp] theorem State.modLink_store (s : State) (p : Port) (f : LinkPart → LinkPart) :
    (s.modLink p f).store = s.store := rfl
@[simp] theorem State.modLink_out (s : State) (p : Port) (f : LinkPart → LinkPart) :
    (s.modLink p f).out = s.out := rfl
@[simp] theorem State.modLink_pending (s : State) (p : Port) (f : LinkPart → LinkPart) :
    (s.modLink p f).pending = s.pending := rfl
@[simp] theorem State.modExposure_supplied (s : State) (p : Port) (f : Exposure → Exposure) :
    (s.modExposure p f).supplied = s.supplied := rfl
@[simp] theorem State.modExposure_straps (s : State) (p : Port) (f : Exposure → Exposure) :
    (s.modExposure p f).straps = s.straps := rfl
@[simp] theorem State.modExposure_station (s : State) (p : Port) (f : Exposure → Exposure) :
    (s.modExposure p f).station = s.station := rfl
@[simp] theorem State.modExposure_hubTime (s : State) (p : Port) (f : Exposure → Exposure) :
    (s.modExposure p f).hubTime = s.hubTime := rfl
@[simp] theorem State.modExposure_freeCount (s : State) (p : Port) (f : Exposure → Exposure) :
    (s.modExposure p f).freeCount = s.freeCount := rfl
@[simp] theorem State.modExposure_claims (s : State) (p : Port) (f : Exposure → Exposure) :
    (s.modExposure p f).claims = s.claims := rfl
@[simp] theorem State.modExposure_view (s : State) (p : Port) (f : Exposure → Exposure) :
    (s.modExposure p f).view = s.view := rfl
@[simp] theorem State.modExposure_lens (s : State) (p : Port) (f : Exposure → Exposure) :
    (s.modExposure p f).lens = s.lens := rfl
@[simp] theorem State.modExposure_triggers (s : State) (p : Port) (f : Exposure → Exposure) :
    (s.modExposure p f).triggers = s.triggers := rfl
@[simp] theorem State.modExposure_frames (s : State) (p : Port) (f : Exposure → Exposure) :
    (s.modExposure p f).frames = s.frames := rfl
@[simp] theorem State.modExposure_outLink (s : State) (p : Port) (f : Exposure → Exposure) :
    (s.modExposure p f).outLink = s.outLink := rfl
@[simp] theorem State.modExposure_locator (s : State) (p : Port) (f : Exposure → Exposure) :
    (s.modExposure p f).locator = s.locator := rfl
@[simp] theorem State.modExposure_line (s : State) (p : Port) (f : Exposure → Exposure) :
    (s.modExposure p f).line = s.line := rfl
@[simp] theorem State.modExposure_commands (s : State) (p : Port) (f : Exposure → Exposure) :
    (s.modExposure p f).commands = s.commands := rfl
@[simp] theorem State.modExposure_events (s : State) (p : Port) (f : Exposure → Exposure) :
    (s.modExposure p f).events = s.events := rfl
@[simp] theorem State.modExposure_nv (s : State) (p : Port) (f : Exposure → Exposure) :
    (s.modExposure p f).nv = s.nv := rfl
@[simp] theorem State.modExposure_store (s : State) (p : Port) (f : Exposure → Exposure) :
    (s.modExposure p f).store = s.store := rfl
@[simp] theorem State.modExposure_out (s : State) (p : Port) (f : Exposure → Exposure) :
    (s.modExposure p f).out = s.out := rfl
@[simp] theorem State.modExposure_pending (s : State) (p : Port) (f : Exposure → Exposure) :
    (s.modExposure p f).pending = s.pending := rfl
@[simp] theorem State.modScan_supplied (s : State) (p : Port) (f : Scan → Scan) :
    (s.modScan p f).supplied = s.supplied := rfl
@[simp] theorem State.modScan_straps (s : State) (p : Port) (f : Scan → Scan) :
    (s.modScan p f).straps = s.straps := rfl
@[simp] theorem State.modScan_station (s : State) (p : Port) (f : Scan → Scan) :
    (s.modScan p f).station = s.station := rfl
@[simp] theorem State.modScan_hubTime (s : State) (p : Port) (f : Scan → Scan) :
    (s.modScan p f).hubTime = s.hubTime := rfl
@[simp] theorem State.modScan_freeCount (s : State) (p : Port) (f : Scan → Scan) :
    (s.modScan p f).freeCount = s.freeCount := rfl
@[simp] theorem State.modScan_claims (s : State) (p : Port) (f : Scan → Scan) :
    (s.modScan p f).claims = s.claims := rfl
@[simp] theorem State.modScan_view (s : State) (p : Port) (f : Scan → Scan) :
    (s.modScan p f).view = s.view := rfl
@[simp] theorem State.modScan_lens (s : State) (p : Port) (f : Scan → Scan) :
    (s.modScan p f).lens = s.lens := rfl
@[simp] theorem State.modScan_triggers (s : State) (p : Port) (f : Scan → Scan) :
    (s.modScan p f).triggers = s.triggers := rfl
@[simp] theorem State.modScan_frames (s : State) (p : Port) (f : Scan → Scan) :
    (s.modScan p f).frames = s.frames := rfl
@[simp] theorem State.modScan_outLink (s : State) (p : Port) (f : Scan → Scan) :
    (s.modScan p f).outLink = s.outLink := rfl
@[simp] theorem State.modScan_locator (s : State) (p : Port) (f : Scan → Scan) :
    (s.modScan p f).locator = s.locator := rfl
@[simp] theorem State.modScan_line (s : State) (p : Port) (f : Scan → Scan) :
    (s.modScan p f).line = s.line := rfl
@[simp] theorem State.modScan_commands (s : State) (p : Port) (f : Scan → Scan) :
    (s.modScan p f).commands = s.commands := rfl
@[simp] theorem State.modScan_events (s : State) (p : Port) (f : Scan → Scan) :
    (s.modScan p f).events = s.events := rfl
@[simp] theorem State.modScan_nv (s : State) (p : Port) (f : Scan → Scan) :
    (s.modScan p f).nv = s.nv := rfl
@[simp] theorem State.modScan_store (s : State) (p : Port) (f : Scan → Scan) :
    (s.modScan p f).store = s.store := rfl
@[simp] theorem State.modScan_out (s : State) (p : Port) (f : Scan → Scan) :
    (s.modScan p f).out = s.out := rfl
@[simp] theorem State.modScan_pending (s : State) (p : Port) (f : Scan → Scan) :
    (s.modScan p f).pending = s.pending := rfl
@[simp] theorem State.modMetric_supplied (s : State) (p : Port) (f : Metric → Metric) :
    (s.modMetric p f).supplied = s.supplied := rfl
@[simp] theorem State.modMetric_straps (s : State) (p : Port) (f : Metric → Metric) :
    (s.modMetric p f).straps = s.straps := rfl
@[simp] theorem State.modMetric_station (s : State) (p : Port) (f : Metric → Metric) :
    (s.modMetric p f).station = s.station := rfl
@[simp] theorem State.modMetric_hubTime (s : State) (p : Port) (f : Metric → Metric) :
    (s.modMetric p f).hubTime = s.hubTime := rfl
@[simp] theorem State.modMetric_freeCount (s : State) (p : Port) (f : Metric → Metric) :
    (s.modMetric p f).freeCount = s.freeCount := rfl
@[simp] theorem State.modMetric_claims (s : State) (p : Port) (f : Metric → Metric) :
    (s.modMetric p f).claims = s.claims := rfl
@[simp] theorem State.modMetric_view (s : State) (p : Port) (f : Metric → Metric) :
    (s.modMetric p f).view = s.view := rfl
@[simp] theorem State.modMetric_lens (s : State) (p : Port) (f : Metric → Metric) :
    (s.modMetric p f).lens = s.lens := rfl
@[simp] theorem State.modMetric_triggers (s : State) (p : Port) (f : Metric → Metric) :
    (s.modMetric p f).triggers = s.triggers := rfl
@[simp] theorem State.modMetric_frames (s : State) (p : Port) (f : Metric → Metric) :
    (s.modMetric p f).frames = s.frames := rfl
@[simp] theorem State.modMetric_outLink (s : State) (p : Port) (f : Metric → Metric) :
    (s.modMetric p f).outLink = s.outLink := rfl
@[simp] theorem State.modMetric_locator (s : State) (p : Port) (f : Metric → Metric) :
    (s.modMetric p f).locator = s.locator := rfl
@[simp] theorem State.modMetric_line (s : State) (p : Port) (f : Metric → Metric) :
    (s.modMetric p f).line = s.line := rfl
@[simp] theorem State.modMetric_commands (s : State) (p : Port) (f : Metric → Metric) :
    (s.modMetric p f).commands = s.commands := rfl
@[simp] theorem State.modMetric_events (s : State) (p : Port) (f : Metric → Metric) :
    (s.modMetric p f).events = s.events := rfl
@[simp] theorem State.modMetric_nv (s : State) (p : Port) (f : Metric → Metric) :
    (s.modMetric p f).nv = s.nv := rfl
@[simp] theorem State.modMetric_store (s : State) (p : Port) (f : Metric → Metric) :
    (s.modMetric p f).store = s.store := rfl
@[simp] theorem State.modMetric_out (s : State) (p : Port) (f : Metric → Metric) :
    (s.modMetric p f).out = s.out := rfl
@[simp] theorem State.modMetric_pending (s : State) (p : Port) (f : Metric → Metric) :
    (s.modMetric p f).pending = s.pending := rfl
@[simp] theorem State.setAxis_supplied (s : State) (a : AxisId) (x : AxisRec) :
    (s.setAxis a x).supplied = s.supplied := rfl
@[simp] theorem State.setAxis_straps (s : State) (a : AxisId) (x : AxisRec) :
    (s.setAxis a x).straps = s.straps := rfl
@[simp] theorem State.setAxis_station (s : State) (a : AxisId) (x : AxisRec) :
    (s.setAxis a x).station = s.station := rfl
@[simp] theorem State.setAxis_hubTime (s : State) (a : AxisId) (x : AxisRec) :
    (s.setAxis a x).hubTime = s.hubTime := rfl
@[simp] theorem State.setAxis_freeCount (s : State) (a : AxisId) (x : AxisRec) :
    (s.setAxis a x).freeCount = s.freeCount := rfl
@[simp] theorem State.setAxis_claims (s : State) (a : AxisId) (x : AxisRec) :
    (s.setAxis a x).claims = s.claims := rfl
@[simp] theorem State.setAxis_view (s : State) (a : AxisId) (x : AxisRec) :
    (s.setAxis a x).view = s.view := rfl
@[simp] theorem State.setAxis_lens (s : State) (a : AxisId) (x : AxisRec) :
    (s.setAxis a x).lens = s.lens := rfl
@[simp] theorem State.setAxis_triggers (s : State) (a : AxisId) (x : AxisRec) :
    (s.setAxis a x).triggers = s.triggers := rfl
@[simp] theorem State.setAxis_frames (s : State) (a : AxisId) (x : AxisRec) :
    (s.setAxis a x).frames = s.frames := rfl
@[simp] theorem State.setAxis_outLink (s : State) (a : AxisId) (x : AxisRec) :
    (s.setAxis a x).outLink = s.outLink := rfl
@[simp] theorem State.setAxis_locator (s : State) (a : AxisId) (x : AxisRec) :
    (s.setAxis a x).locator = s.locator := rfl
@[simp] theorem State.setAxis_line (s : State) (a : AxisId) (x : AxisRec) :
    (s.setAxis a x).line = s.line := rfl
@[simp] theorem State.setAxis_commands (s : State) (a : AxisId) (x : AxisRec) :
    (s.setAxis a x).commands = s.commands := rfl
@[simp] theorem State.setAxis_events (s : State) (a : AxisId) (x : AxisRec) :
    (s.setAxis a x).events = s.events := rfl
@[simp] theorem State.setAxis_nv (s : State) (a : AxisId) (x : AxisRec) :
    (s.setAxis a x).nv = s.nv := rfl
@[simp] theorem State.setAxis_store (s : State) (a : AxisId) (x : AxisRec) :
    (s.setAxis a x).store = s.store := rfl
@[simp] theorem State.setAxis_out (s : State) (a : AxisId) (x : AxisRec) :
    (s.setAxis a x).out = s.out := rfl
@[simp] theorem State.setAxis_pending (s : State) (a : AxisId) (x : AxisRec) :
    (s.setAxis a x).pending = s.pending := rfl
@[simp] theorem State.modAxis_supplied (s : State) (a : AxisId) (f : AxisRec → AxisRec) :
    (s.modAxis a f).supplied = s.supplied := rfl
@[simp] theorem State.modAxis_straps (s : State) (a : AxisId) (f : AxisRec → AxisRec) :
    (s.modAxis a f).straps = s.straps := rfl
@[simp] theorem State.modAxis_station (s : State) (a : AxisId) (f : AxisRec → AxisRec) :
    (s.modAxis a f).station = s.station := rfl
@[simp] theorem State.modAxis_hubTime (s : State) (a : AxisId) (f : AxisRec → AxisRec) :
    (s.modAxis a f).hubTime = s.hubTime := rfl
@[simp] theorem State.modAxis_freeCount (s : State) (a : AxisId) (f : AxisRec → AxisRec) :
    (s.modAxis a f).freeCount = s.freeCount := rfl
@[simp] theorem State.modAxis_claims (s : State) (a : AxisId) (f : AxisRec → AxisRec) :
    (s.modAxis a f).claims = s.claims := rfl
@[simp] theorem State.modAxis_view (s : State) (a : AxisId) (f : AxisRec → AxisRec) :
    (s.modAxis a f).view = s.view := rfl
@[simp] theorem State.modAxis_lens (s : State) (a : AxisId) (f : AxisRec → AxisRec) :
    (s.modAxis a f).lens = s.lens := rfl
@[simp] theorem State.modAxis_triggers (s : State) (a : AxisId) (f : AxisRec → AxisRec) :
    (s.modAxis a f).triggers = s.triggers := rfl
@[simp] theorem State.modAxis_frames (s : State) (a : AxisId) (f : AxisRec → AxisRec) :
    (s.modAxis a f).frames = s.frames := rfl
@[simp] theorem State.modAxis_outLink (s : State) (a : AxisId) (f : AxisRec → AxisRec) :
    (s.modAxis a f).outLink = s.outLink := rfl
@[simp] theorem State.modAxis_locator (s : State) (a : AxisId) (f : AxisRec → AxisRec) :
    (s.modAxis a f).locator = s.locator := rfl
@[simp] theorem State.modAxis_line (s : State) (a : AxisId) (f : AxisRec → AxisRec) :
    (s.modAxis a f).line = s.line := rfl
@[simp] theorem State.modAxis_commands (s : State) (a : AxisId) (f : AxisRec → AxisRec) :
    (s.modAxis a f).commands = s.commands := rfl
@[simp] theorem State.modAxis_events (s : State) (a : AxisId) (f : AxisRec → AxisRec) :
    (s.modAxis a f).events = s.events := rfl
@[simp] theorem State.modAxis_nv (s : State) (a : AxisId) (f : AxisRec → AxisRec) :
    (s.modAxis a f).nv = s.nv := rfl
@[simp] theorem State.modAxis_store (s : State) (a : AxisId) (f : AxisRec → AxisRec) :
    (s.modAxis a f).store = s.store := rfl
@[simp] theorem State.modAxis_out (s : State) (a : AxisId) (f : AxisRec → AxisRec) :
    (s.modAxis a f).out = s.out := rfl
@[simp] theorem State.modAxis_pending (s : State) (a : AxisId) (f : AxisRec → AxisRec) :
    (s.modAxis a f).pending = s.pending := rfl

theorem State.port_of_ports {s t : State} (h : t.ports = s.ports) (p : Port) : t.port p = s.port p := by
  rw [State.port, h, State.port]

@[simp] theorem State.fresh_port (s : State) (p : Port) : s.fresh.port p = s.port p := rfl
@[simp] theorem State.fresh_img (s : State) : s.fresh.img = s.img := rfl

@[simp] theorem State.setPort_port_same (s : State) (p : Port) (r : PortRec) :
    (s.setPort p r).port p = r := Four.get_set_same s.ports p r

theorem State.setPort_port_ne (s : State) {p q : Port} (r : PortRec) (h : q ≠ p) :
    (s.setPort p r).port q = s.port q := Four.get_set_ne s.ports r h

@[simp] theorem State.modPort_port_same (s : State) (p : Port) (f : PortRec → PortRec) :
    (s.modPort p f).port p = f (s.port p) := State.setPort_port_same s p _

theorem State.modPort_port_ne (s : State) {p q : Port} (f : PortRec → PortRec) (h : q ≠ p) :
    (s.modPort p f).port q = s.port q := State.setPort_port_ne s _ h

/-- The one lemma for an update of a port record: the port named takes the new record. -/
theorem State.modPort_port (s : State) (p q : Port) (f : PortRec → PortRec) :
    (s.modPort p f).port q = if q = p then f (s.port p) else s.port q := by
  by_cases h : q = p
  · subst h; simp
  · simp [h, State.modPort_port_ne s f h]

theorem State.modPower_port (s : State) (p q : Port) (f : PowerPart → PowerPart) :
    (s.modPower p f).port q
      = if q = p then { s.port p with power := f (s.port p).power } else s.port q :=
  State.modPort_port s p q _

theorem State.modLink_port (s : State) (p q : Port) (f : LinkPart → LinkPart) :
    (s.modLink p f).port q
      = if q = p then { s.port p with link := f (s.port p).link } else s.port q :=
  State.modPort_port s p q _

theorem State.modExposure_port (s : State) (p q : Port) (f : Exposure → Exposure) :
    (s.modExposure p f).port q
      = if q = p then { s.port p with exposure := f (s.port p).exposure } else s.port q :=
  State.modPort_port s p q _

theorem State.modScan_port (s : State) (p q : Port) (f : Scan → Scan) :
    (s.modScan p f).port q
      = if q = p then { s.port p with scan := f (s.port p).scan } else s.port q :=
  State.modPort_port s p q _

theorem State.modMetric_port (s : State) (p q : Port) (f : Metric → Metric) :
    (s.modMetric p f).port q
      = if q = p then { s.port p with metric := f (s.port p).metric } else s.port q :=
  State.modPort_port s p q _

theorem State.setAxis_port (s : State) (a : AxisId) (x : AxisRec) (q : Port) :
    (s.setAxis a x).port q
      = if q = a.port then (s.port a.port).setAxis a.name x else s.port q :=
  State.modPort_port s a.port q _

@[simp] theorem PortRec.setAxis_axis_same (r : PortRec) (n : AxisName) (x : AxisRec) :
    (r.setAxis n x).axis n = x := by cases n <;> rfl

theorem PortRec.setAxis_axis_ne (r : PortRec) {n m : AxisName} (x : AxisRec) (h : m ≠ n) :
    (r.setAxis n x).axis m = r.axis m := by
  cases n <;> cases m <;> first | exact absurd rfl h | rfl

@[simp] theorem PortRec.setAxis_power (r : PortRec) (n : AxisName) (x : AxisRec) :
    (r.setAxis n x).power = r.power := by cases n <;> rfl
@[simp] theorem PortRec.setAxis_link (r : PortRec) (n : AxisName) (x : AxisRec) :
    (r.setAxis n x).link = r.link := by cases n <;> rfl
@[simp] theorem PortRec.setAxis_exposure (r : PortRec) (n : AxisName) (x : AxisRec) :
    (r.setAxis n x).exposure = r.exposure := by cases n <;> rfl
@[simp] theorem PortRec.setAxis_scan (r : PortRec) (n : AxisName) (x : AxisRec) :
    (r.setAxis n x).scan = r.scan := by cases n <;> rfl
@[simp] theorem PortRec.setAxis_metric (r : PortRec) (n : AxisName) (x : AxisRec) :
    (r.setAxis n x).metric = r.metric := by cases n <;> rfl
@[simp] theorem PortRec.setAxis_sweep (r : PortRec) (n : AxisName) (x : AxisRec) :
    (r.setAxis n x).sweep = r.sweep := by cases n <;> rfl
@[simp] theorem PortRec.setAxis_frameCounter (r : PortRec) (n : AxisName) (x : AxisRec) :
    (r.setAxis n x).frameCounter = r.frameCounter := by cases n <;> rfl

@[simp] theorem State.setAxis_axis_same (s : State) (a : AxisId) (x : AxisRec) :
    (s.setAxis a x).axis a = x := by
  simp [State.axis, State.setAxis_port]

theorem State.setAxis_axis_ne (s : State) {a b : AxisId} (x : AxisRec) (h : b ≠ a) :
    (s.setAxis a x).axis b = s.axis b := by
  simp only [State.axis, State.setAxis_port]
  split
  · next hp =>
    rw [hp]
    refine PortRec.setAxis_axis_ne _ x fun hn => h ?_
    cases a; cases b; simp_all
  · rfl

/-! ### An output alone -/

@[simp] theorem State.emit_supplied (s : State) (o : Out) : (s.emit o).supplied = s.supplied := rfl
@[simp] theorem State.emit_straps (s : State) (o : Out) : (s.emit o).straps = s.straps := rfl
@[simp] theorem State.emit_station (s : State) (o : Out) : (s.emit o).station = s.station := rfl
@[simp] theorem State.emit_hubTime (s : State) (o : Out) : (s.emit o).hubTime = s.hubTime := rfl
@[simp] theorem State.emit_freeCount (s : State) (o : Out) :
    (s.emit o).freeCount = s.freeCount := rfl
@[simp] theorem State.emit_ports (s : State) (o : Out) : (s.emit o).ports = s.ports := rfl
@[simp] theorem State.emit_claims (s : State) (o : Out) : (s.emit o).claims = s.claims := rfl
@[simp] theorem State.emit_view (s : State) (o : Out) : (s.emit o).view = s.view := rfl
@[simp] theorem State.emit_lens (s : State) (o : Out) : (s.emit o).lens = s.lens := rfl
@[simp] theorem State.emit_triggers (s : State) (o : Out) : (s.emit o).triggers = s.triggers := rfl
@[simp] theorem State.emit_frames (s : State) (o : Out) : (s.emit o).frames = s.frames := rfl
@[simp] theorem State.emit_outLink (s : State) (o : Out) : (s.emit o).outLink = s.outLink := rfl
@[simp] theorem State.emit_locator (s : State) (o : Out) : (s.emit o).locator = s.locator := rfl
@[simp] theorem State.emit_line (s : State) (o : Out) : (s.emit o).line = s.line := rfl
@[simp] theorem State.emit_commands (s : State) (o : Out) : (s.emit o).commands = s.commands := rfl
@[simp] theorem State.emit_events (s : State) (o : Out) : (s.emit o).events = s.events := rfl
@[simp] theorem State.emit_nv (s : State) (o : Out) : (s.emit o).nv = s.nv := rfl
@[simp] theorem State.emit_store (s : State) (o : Out) : (s.emit o).store = s.store := rfl
@[simp] theorem State.emit_pending (s : State) (o : Out) : (s.emit o).pending = s.pending := rfl
@[simp] theorem State.emit_out (s : State) (o : Out) : (s.emit o).out = s.out ++ [o] := rfl
@[simp] theorem State.emit_port (s : State) (o : Out) (p : Port) :
    (s.emit o).port p = s.port p := rfl

/-! ### The transmit queue and the counters of the line alone -/

@[simp] theorem State.joinTx_supplied (s : State) (b : TxBody) :
    (s.joinTx b).supplied = s.supplied := rfl
@[simp] theorem State.joinTx_straps (s : State) (b : TxBody) : (s.joinTx b).straps = s.straps := rfl
@[simp] theorem State.joinTx_station (s : State) (b : TxBody) :
    (s.joinTx b).station = s.station := rfl
@[simp] theorem State.joinTx_hubTime (s : State) (b : TxBody) :
    (s.joinTx b).hubTime = s.hubTime := rfl
@[simp] theorem State.joinTx_freeCount (s : State) (b : TxBody) :
    (s.joinTx b).freeCount = s.freeCount := rfl
@[simp] theorem State.joinTx_ports (s : State) (b : TxBody) : (s.joinTx b).ports = s.ports := rfl
@[simp] theorem State.joinTx_claims (s : State) (b : TxBody) : (s.joinTx b).claims = s.claims := rfl
@[simp] theorem State.joinTx_view (s : State) (b : TxBody) : (s.joinTx b).view = s.view := rfl
@[simp] theorem State.joinTx_lens (s : State) (b : TxBody) : (s.joinTx b).lens = s.lens := rfl
@[simp] theorem State.joinTx_triggers (s : State) (b : TxBody) :
    (s.joinTx b).triggers = s.triggers := rfl
@[simp] theorem State.joinTx_frames (s : State) (b : TxBody) : (s.joinTx b).frames = s.frames := rfl
@[simp] theorem State.joinTx_outLink (s : State) (b : TxBody) :
    (s.joinTx b).outLink = s.outLink := rfl
@[simp] theorem State.joinTx_locator (s : State) (b : TxBody) :
    (s.joinTx b).locator = s.locator := rfl
@[simp] theorem State.joinTx_commands (s : State) (b : TxBody) :
    (s.joinTx b).commands = s.commands := rfl
@[simp] theorem State.joinTx_events (s : State) (b : TxBody) : (s.joinTx b).events = s.events := rfl
@[simp] theorem State.joinTx_nv (s : State) (b : TxBody) : (s.joinTx b).nv = s.nv := rfl
@[simp] theorem State.joinTx_store (s : State) (b : TxBody) : (s.joinTx b).store = s.store := rfl
@[simp] theorem State.joinTx_out (s : State) (b : TxBody) : (s.joinTx b).out = s.out := rfl
@[simp] theorem State.joinTx_pending (s : State) (b : TxBody) :
    (s.joinTx b).pending = s.pending := rfl
@[simp] theorem State.joinTx_queue (s : State) (b : TxBody) :
    (s.joinTx b).line.queue = insertTx ⟨b, false⟩ s.line.queue := rfl
@[simp] theorem State.joinTx_tx (s : State) (b : TxBody) : (s.joinTx b).line.tx = s.line.tx := rfl
@[simp] theorem State.joinTx_held (s : State) (b : TxBody) :
    (s.joinTx b).line.held = s.line.held := rfl
@[simp] theorem State.joinTx_counters (s : State) (b : TxBody) :
    (s.joinTx b).line.counters = s.line.counters := rfl
@[simp] theorem State.modCounters_supplied (s : State) (f : LineCounters → LineCounters) :
    (s.modCounters f).supplied = s.supplied := rfl
@[simp] theorem State.modCounters_straps (s : State) (f : LineCounters → LineCounters) :
    (s.modCounters f).straps = s.straps := rfl
@[simp] theorem State.modCounters_station (s : State) (f : LineCounters → LineCounters) :
    (s.modCounters f).station = s.station := rfl
@[simp] theorem State.modCounters_hubTime (s : State) (f : LineCounters → LineCounters) :
    (s.modCounters f).hubTime = s.hubTime := rfl
@[simp] theorem State.modCounters_freeCount (s : State) (f : LineCounters → LineCounters) :
    (s.modCounters f).freeCount = s.freeCount := rfl
@[simp] theorem State.modCounters_ports (s : State) (f : LineCounters → LineCounters) :
    (s.modCounters f).ports = s.ports := rfl
@[simp] theorem State.modCounters_claims (s : State) (f : LineCounters → LineCounters) :
    (s.modCounters f).claims = s.claims := rfl
@[simp] theorem State.modCounters_view (s : State) (f : LineCounters → LineCounters) :
    (s.modCounters f).view = s.view := rfl
@[simp] theorem State.modCounters_lens (s : State) (f : LineCounters → LineCounters) :
    (s.modCounters f).lens = s.lens := rfl
@[simp] theorem State.modCounters_triggers (s : State) (f : LineCounters → LineCounters) :
    (s.modCounters f).triggers = s.triggers := rfl
@[simp] theorem State.modCounters_frames (s : State) (f : LineCounters → LineCounters) :
    (s.modCounters f).frames = s.frames := rfl
@[simp] theorem State.modCounters_outLink (s : State) (f : LineCounters → LineCounters) :
    (s.modCounters f).outLink = s.outLink := rfl
@[simp] theorem State.modCounters_locator (s : State) (f : LineCounters → LineCounters) :
    (s.modCounters f).locator = s.locator := rfl
@[simp] theorem State.modCounters_commands (s : State) (f : LineCounters → LineCounters) :
    (s.modCounters f).commands = s.commands := rfl
@[simp] theorem State.modCounters_events (s : State) (f : LineCounters → LineCounters) :
    (s.modCounters f).events = s.events := rfl
@[simp] theorem State.modCounters_nv (s : State) (f : LineCounters → LineCounters) :
    (s.modCounters f).nv = s.nv := rfl
@[simp] theorem State.modCounters_store (s : State) (f : LineCounters → LineCounters) :
    (s.modCounters f).store = s.store := rfl
@[simp] theorem State.modCounters_out (s : State) (f : LineCounters → LineCounters) :
    (s.modCounters f).out = s.out := rfl
@[simp] theorem State.modCounters_pending (s : State) (f : LineCounters → LineCounters) :
    (s.modCounters f).pending = s.pending := rfl
@[simp] theorem State.countReportLost_supplied (s : State) :
    (s.countReportLost).supplied = s.supplied := rfl
@[simp] theorem State.countReportLost_straps (s : State) :
    (s.countReportLost).straps = s.straps := rfl
@[simp] theorem State.countReportLost_station (s : State) :
    (s.countReportLost).station = s.station := rfl
@[simp] theorem State.countReportLost_hubTime (s : State) :
    (s.countReportLost).hubTime = s.hubTime := rfl
@[simp] theorem State.countReportLost_freeCount (s : State) :
    (s.countReportLost).freeCount = s.freeCount := rfl
@[simp] theorem State.countReportLost_ports (s : State) : (s.countReportLost).ports = s.ports := rfl
@[simp] theorem State.countReportLost_claims (s : State) :
    (s.countReportLost).claims = s.claims := rfl
@[simp] theorem State.countReportLost_view (s : State) : (s.countReportLost).view = s.view := rfl
@[simp] theorem State.countReportLost_lens (s : State) : (s.countReportLost).lens = s.lens := rfl
@[simp] theorem State.countReportLost_triggers (s : State) :
    (s.countReportLost).triggers = s.triggers := rfl
@[simp] theorem State.countReportLost_frames (s : State) :
    (s.countReportLost).frames = s.frames := rfl
@[simp] theorem State.countReportLost_outLink (s : State) :
    (s.countReportLost).outLink = s.outLink := rfl
@[simp] theorem State.countReportLost_locator (s : State) :
    (s.countReportLost).locator = s.locator := rfl
@[simp] theorem State.countReportLost_commands (s : State) :
    (s.countReportLost).commands = s.commands := rfl
@[simp] theorem State.countReportLost_events (s : State) :
    (s.countReportLost).events = s.events := rfl
@[simp] theorem State.countReportLost_nv (s : State) : (s.countReportLost).nv = s.nv := rfl
@[simp] theorem State.countReportLost_store (s : State) : (s.countReportLost).store = s.store := rfl
@[simp] theorem State.countReportLost_out (s : State) : (s.countReportLost).out = s.out := rfl
@[simp] theorem State.countReportLost_pending (s : State) :
    (s.countReportLost).pending = s.pending := rfl
@[simp] theorem State.countReplyLost_supplied (s : State) :
    (s.countReplyLost).supplied = s.supplied := rfl
@[simp] theorem State.countReplyLost_straps (s : State) :
    (s.countReplyLost).straps = s.straps := rfl
@[simp] theorem State.countReplyLost_station (s : State) :
    (s.countReplyLost).station = s.station := rfl
@[simp] theorem State.countReplyLost_hubTime (s : State) :
    (s.countReplyLost).hubTime = s.hubTime := rfl
@[simp] theorem State.countReplyLost_freeCount (s : State) :
    (s.countReplyLost).freeCount = s.freeCount := rfl
@[simp] theorem State.countReplyLost_ports (s : State) : (s.countReplyLost).ports = s.ports := rfl
@[simp] theorem State.countReplyLost_claims (s : State) :
    (s.countReplyLost).claims = s.claims := rfl
@[simp] theorem State.countReplyLost_view (s : State) : (s.countReplyLost).view = s.view := rfl
@[simp] theorem State.countReplyLost_lens (s : State) : (s.countReplyLost).lens = s.lens := rfl
@[simp] theorem State.countReplyLost_triggers (s : State) :
    (s.countReplyLost).triggers = s.triggers := rfl
@[simp] theorem State.countReplyLost_frames (s : State) :
    (s.countReplyLost).frames = s.frames := rfl
@[simp] theorem State.countReplyLost_outLink (s : State) :
    (s.countReplyLost).outLink = s.outLink := rfl
@[simp] theorem State.countReplyLost_locator (s : State) :
    (s.countReplyLost).locator = s.locator := rfl
@[simp] theorem State.countReplyLost_commands (s : State) :
    (s.countReplyLost).commands = s.commands := rfl
@[simp] theorem State.countReplyLost_events (s : State) :
    (s.countReplyLost).events = s.events := rfl
@[simp] theorem State.countReplyLost_nv (s : State) : (s.countReplyLost).nv = s.nv := rfl
@[simp] theorem State.countReplyLost_store (s : State) : (s.countReplyLost).store = s.store := rfl
@[simp] theorem State.countReplyLost_out (s : State) : (s.countReplyLost).out = s.out := rfl
@[simp] theorem State.countReplyLost_pending (s : State) :
    (s.countReplyLost).pending = s.pending := rfl
@[simp] theorem State.countReplyLost_queue (s : State) : s.countReplyLost.line.queue = s.line.queue := rfl
@[simp] theorem State.countReportLost_queue (s : State) :
    s.countReportLost.line.queue = s.line.queue := rfl
@[simp] theorem State.countReplyLost_tx (s : State) : s.countReplyLost.line.tx = s.line.tx := rfl
@[simp] theorem State.countReportLost_tx (s : State) : s.countReportLost.line.tx = s.line.tx := rfl

/-! ### A REPORT offered touches the line alone, a STANDING offered the line and the claim unit -/

@[simp] theorem State.offerReport_supplied (s : State) (r : Report) :
    (s.offerReport r).supplied = s.supplied := by
  unfold State.offerReport; split <;> rfl
@[simp] theorem State.offerReport_straps (s : State) (r : Report) :
    (s.offerReport r).straps = s.straps := by
  unfold State.offerReport; split <;> rfl
@[simp] theorem State.offerReport_station (s : State) (r : Report) :
    (s.offerReport r).station = s.station := by
  unfold State.offerReport; split <;> rfl
@[simp] theorem State.offerReport_hubTime (s : State) (r : Report) :
    (s.offerReport r).hubTime = s.hubTime := by
  unfold State.offerReport; split <;> rfl
@[simp] theorem State.offerReport_freeCount (s : State) (r : Report) :
    (s.offerReport r).freeCount = s.freeCount := by
  unfold State.offerReport; split <;> rfl
@[simp] theorem State.offerReport_ports (s : State) (r : Report) :
    (s.offerReport r).ports = s.ports := by
  unfold State.offerReport; split <;> rfl
@[simp] theorem State.offerReport_claims (s : State) (r : Report) :
    (s.offerReport r).claims = s.claims := by
  unfold State.offerReport; split <;> rfl
@[simp] theorem State.offerReport_view (s : State) (r : Report) :
    (s.offerReport r).view = s.view := by
  unfold State.offerReport; split <;> rfl
@[simp] theorem State.offerReport_lens (s : State) (r : Report) :
    (s.offerReport r).lens = s.lens := by
  unfold State.offerReport; split <;> rfl
@[simp] theorem State.offerReport_triggers (s : State) (r : Report) :
    (s.offerReport r).triggers = s.triggers := by
  unfold State.offerReport; split <;> rfl
@[simp] theorem State.offerReport_frames (s : State) (r : Report) :
    (s.offerReport r).frames = s.frames := by
  unfold State.offerReport; split <;> rfl
@[simp] theorem State.offerReport_outLink (s : State) (r : Report) :
    (s.offerReport r).outLink = s.outLink := by
  unfold State.offerReport; split <;> rfl
@[simp] theorem State.offerReport_locator (s : State) (r : Report) :
    (s.offerReport r).locator = s.locator := by
  unfold State.offerReport; split <;> rfl
@[simp] theorem State.offerReport_commands (s : State) (r : Report) :
    (s.offerReport r).commands = s.commands := by
  unfold State.offerReport; split <;> rfl
@[simp] theorem State.offerReport_events (s : State) (r : Report) :
    (s.offerReport r).events = s.events := by
  unfold State.offerReport; split <;> rfl
@[simp] theorem State.offerReport_nv (s : State) (r : Report) : (s.offerReport r).nv = s.nv := by
  unfold State.offerReport; split <;> rfl
@[simp] theorem State.offerReport_store (s : State) (r : Report) :
    (s.offerReport r).store = s.store := by
  unfold State.offerReport; split <;> rfl
@[simp] theorem State.offerReport_out (s : State) (r : Report) : (s.offerReport r).out = s.out := by
  unfold State.offerReport; split <;> rfl
@[simp] theorem State.offerReport_pending (s : State) (r : Report) :
    (s.offerReport r).pending = s.pending := by
  unfold State.offerReport; split <;> rfl
@[simp] theorem State.offerStanding_supplied (s : State) :
    (s.offerStanding).supplied = s.supplied := by
  unfold State.offerStanding; repeat' split
  all_goals rfl
@[simp] theorem State.offerStanding_straps (s : State) : (s.offerStanding).straps = s.straps := by
  unfold State.offerStanding; repeat' split
  all_goals rfl
@[simp] theorem State.offerStanding_station (s : State) :
    (s.offerStanding).station = s.station := by
  unfold State.offerStanding; repeat' split
  all_goals rfl
@[simp] theorem State.offerStanding_hubTime (s : State) :
    (s.offerStanding).hubTime = s.hubTime := by
  unfold State.offerStanding; repeat' split
  all_goals rfl
@[simp] theorem State.offerStanding_freeCount (s : State) :
    (s.offerStanding).freeCount = s.freeCount := by
  unfold State.offerStanding; repeat' split
  all_goals rfl
@[simp] theorem State.offerStanding_ports (s : State) : (s.offerStanding).ports = s.ports := by
  unfold State.offerStanding; repeat' split
  all_goals rfl
@[simp] theorem State.offerStanding_view (s : State) : (s.offerStanding).view = s.view := by
  unfold State.offerStanding; repeat' split
  all_goals rfl
@[simp] theorem State.offerStanding_lens (s : State) : (s.offerStanding).lens = s.lens := by
  unfold State.offerStanding; repeat' split
  all_goals rfl
@[simp] theorem State.offerStanding_triggers (s : State) :
    (s.offerStanding).triggers = s.triggers := by
  unfold State.offerStanding; repeat' split
  all_goals rfl
@[simp] theorem State.offerStanding_frames (s : State) : (s.offerStanding).frames = s.frames := by
  unfold State.offerStanding; repeat' split
  all_goals rfl
@[simp] theorem State.offerStanding_outLink (s : State) :
    (s.offerStanding).outLink = s.outLink := by
  unfold State.offerStanding; repeat' split
  all_goals rfl
@[simp] theorem State.offerStanding_locator (s : State) :
    (s.offerStanding).locator = s.locator := by
  unfold State.offerStanding; repeat' split
  all_goals rfl
@[simp] theorem State.offerStanding_commands (s : State) :
    (s.offerStanding).commands = s.commands := by
  unfold State.offerStanding; repeat' split
  all_goals rfl
@[simp] theorem State.offerStanding_events (s : State) : (s.offerStanding).events = s.events := by
  unfold State.offerStanding; repeat' split
  all_goals rfl
@[simp] theorem State.offerStanding_nv (s : State) : (s.offerStanding).nv = s.nv := by
  unfold State.offerStanding; repeat' split
  all_goals rfl
@[simp] theorem State.offerStanding_store (s : State) : (s.offerStanding).store = s.store := by
  unfold State.offerStanding; repeat' split
  all_goals rfl
@[simp] theorem State.offerStanding_out (s : State) : (s.offerStanding).out = s.out := by
  unfold State.offerStanding; repeat' split
  all_goals rfl
@[simp] theorem State.offerStanding_pending (s : State) :
    (s.offerStanding).pending = s.pending := by
  unfold State.offerStanding; repeat' split
  all_goals rfl

/-! ### A latch touches the event entries and the line alone -/

@[simp] theorem State.latch_supplied (s : State) (e : EventName) (p : Option Port) (d : Detail) :
    (s.latch e p d).supplied = s.supplied := by
  unfold State.latch; dsimp only; split <;> simp
@[simp] theorem State.latch_straps (s : State) (e : EventName) (p : Option Port) (d : Detail) :
    (s.latch e p d).straps = s.straps := by
  unfold State.latch; dsimp only; split <;> simp
@[simp] theorem State.latch_station (s : State) (e : EventName) (p : Option Port) (d : Detail) :
    (s.latch e p d).station = s.station := by
  unfold State.latch; dsimp only; split <;> simp
@[simp] theorem State.latch_hubTime (s : State) (e : EventName) (p : Option Port) (d : Detail) :
    (s.latch e p d).hubTime = s.hubTime := by
  unfold State.latch; dsimp only; split <;> simp
@[simp] theorem State.latch_freeCount (s : State) (e : EventName) (p : Option Port) (d : Detail) :
    (s.latch e p d).freeCount = s.freeCount := by
  unfold State.latch; dsimp only; split <;> simp
@[simp] theorem State.latch_ports (s : State) (e : EventName) (p : Option Port) (d : Detail) :
    (s.latch e p d).ports = s.ports := by
  unfold State.latch; dsimp only; split <;> simp
@[simp] theorem State.latch_claims (s : State) (e : EventName) (p : Option Port) (d : Detail) :
    (s.latch e p d).claims = s.claims := by
  unfold State.latch; dsimp only; split <;> simp
@[simp] theorem State.latch_view (s : State) (e : EventName) (p : Option Port) (d : Detail) :
    (s.latch e p d).view = s.view := by
  unfold State.latch; dsimp only; split <;> simp
@[simp] theorem State.latch_lens (s : State) (e : EventName) (p : Option Port) (d : Detail) :
    (s.latch e p d).lens = s.lens := by
  unfold State.latch; dsimp only; split <;> simp
@[simp] theorem State.latch_triggers (s : State) (e : EventName) (p : Option Port) (d : Detail) :
    (s.latch e p d).triggers = s.triggers := by
  unfold State.latch; dsimp only; split <;> simp
@[simp] theorem State.latch_frames (s : State) (e : EventName) (p : Option Port) (d : Detail) :
    (s.latch e p d).frames = s.frames := by
  unfold State.latch; dsimp only; split <;> simp
@[simp] theorem State.latch_outLink (s : State) (e : EventName) (p : Option Port) (d : Detail) :
    (s.latch e p d).outLink = s.outLink := by
  unfold State.latch; dsimp only; split <;> simp
@[simp] theorem State.latch_locator (s : State) (e : EventName) (p : Option Port) (d : Detail) :
    (s.latch e p d).locator = s.locator := by
  unfold State.latch; dsimp only; split <;> simp
@[simp] theorem State.latch_commands (s : State) (e : EventName) (p : Option Port) (d : Detail) :
    (s.latch e p d).commands = s.commands := by
  unfold State.latch; dsimp only; split <;> simp
@[simp] theorem State.latch_nv (s : State) (e : EventName) (p : Option Port) (d : Detail) :
    (s.latch e p d).nv = s.nv := by
  unfold State.latch; dsimp only; split <;> simp
@[simp] theorem State.latch_store (s : State) (e : EventName) (p : Option Port) (d : Detail) :
    (s.latch e p d).store = s.store := by
  unfold State.latch; dsimp only; split <;> simp
@[simp] theorem State.latch_out (s : State) (e : EventName) (p : Option Port) (d : Detail) :
    (s.latch e p d).out = s.out := by
  unfold State.latch; dsimp only; split <;> simp
@[simp] theorem State.latch_pending (s : State) (e : EventName) (p : Option Port) (d : Detail) :
    (s.latch e p d).pending = s.pending := by
  unfold State.latch; dsimp only; split <;> simp
@[simp] theorem State.latch_port (s : State) (e : EventName) (o : Option Port) (d : Detail) (p : Port) :
    (s.latch e o d).port p = s.port p := State.port_of_ports (State.latch_ports s e o d) p

/-! ### The view, and a lowering -/

@[simp] theorem State.announce_supplied (s : State) (n : Nat) (g : Option Surge) :
    (s.announce n g).supplied = s.supplied := rfl
@[simp] theorem State.announce_straps (s : State) (n : Nat) (g : Option Surge) :
    (s.announce n g).straps = s.straps := rfl
@[simp] theorem State.announce_station (s : State) (n : Nat) (g : Option Surge) :
    (s.announce n g).station = s.station := rfl
@[simp] theorem State.announce_hubTime (s : State) (n : Nat) (g : Option Surge) :
    (s.announce n g).hubTime = s.hubTime := rfl
@[simp] theorem State.announce_freeCount (s : State) (n : Nat) (g : Option Surge) :
    (s.announce n g).freeCount = s.freeCount := rfl
@[simp] theorem State.announce_ports (s : State) (n : Nat) (g : Option Surge) :
    (s.announce n g).ports = s.ports := rfl
@[simp] theorem State.announce_claims (s : State) (n : Nat) (g : Option Surge) :
    (s.announce n g).claims = s.claims := rfl
@[simp] theorem State.announce_lens (s : State) (n : Nat) (g : Option Surge) :
    (s.announce n g).lens = s.lens := rfl
@[simp] theorem State.announce_triggers (s : State) (n : Nat) (g : Option Surge) :
    (s.announce n g).triggers = s.triggers := rfl
@[simp] theorem State.announce_frames (s : State) (n : Nat) (g : Option Surge) :
    (s.announce n g).frames = s.frames := rfl
@[simp] theorem State.announce_outLink (s : State) (n : Nat) (g : Option Surge) :
    (s.announce n g).outLink = s.outLink := rfl
@[simp] theorem State.announce_locator (s : State) (n : Nat) (g : Option Surge) :
    (s.announce n g).locator = s.locator := rfl
@[simp] theorem State.announce_line (s : State) (n : Nat) (g : Option Surge) :
    (s.announce n g).line = s.line := rfl
@[simp] theorem State.announce_commands (s : State) (n : Nat) (g : Option Surge) :
    (s.announce n g).commands = s.commands := rfl
@[simp] theorem State.announce_events (s : State) (n : Nat) (g : Option Surge) :
    (s.announce n g).events = s.events := rfl
@[simp] theorem State.announce_nv (s : State) (n : Nat) (g : Option Surge) :
    (s.announce n g).nv = s.nv := rfl
@[simp] theorem State.announce_store (s : State) (n : Nat) (g : Option Surge) :
    (s.announce n g).store = s.store := rfl
@[simp] theorem State.announce_out (s : State) (n : Nat) (g : Option Surge) :
    (s.announce n g).out = s.out := rfl
@[simp] theorem State.announce_pending (s : State) (n : Nat) (g : Option Surge) :
    (s.announce n g).pending = s.pending := rfl
@[simp] theorem State.lowering_supplied (s : State) :
    (s.lowering).supplied = s.supplied := by simp [State.lowering]
@[simp] theorem State.lowering_straps (s : State) :
    (s.lowering).straps = s.straps := by simp [State.lowering]
@[simp] theorem State.lowering_station (s : State) :
    (s.lowering).station = s.station := by simp [State.lowering]
@[simp] theorem State.lowering_hubTime (s : State) :
    (s.lowering).hubTime = s.hubTime := by simp [State.lowering]
@[simp] theorem State.lowering_freeCount (s : State) :
    (s.lowering).freeCount = s.freeCount := by simp [State.lowering]
@[simp] theorem State.lowering_ports (s : State) :
    (s.lowering).ports = s.ports := by simp [State.lowering]
@[simp] theorem State.lowering_view (s : State) :
    (s.lowering).view = s.view := by simp [State.lowering]
@[simp] theorem State.lowering_lens (s : State) :
    (s.lowering).lens = s.lens := by simp [State.lowering]
@[simp] theorem State.lowering_triggers (s : State) :
    (s.lowering).triggers = s.triggers := by simp [State.lowering]
@[simp] theorem State.lowering_frames (s : State) :
    (s.lowering).frames = s.frames := by simp [State.lowering]
@[simp] theorem State.lowering_outLink (s : State) :
    (s.lowering).outLink = s.outLink := by simp [State.lowering]
@[simp] theorem State.lowering_locator (s : State) :
    (s.lowering).locator = s.locator := by simp [State.lowering]
@[simp] theorem State.lowering_commands (s : State) :
    (s.lowering).commands = s.commands := by simp [State.lowering]
@[simp] theorem State.lowering_events (s : State) :
    (s.lowering).events = s.events := by simp [State.lowering]
@[simp] theorem State.lowering_nv (s : State) : (s.lowering).nv = s.nv := by simp [State.lowering]
@[simp] theorem State.lowering_store (s : State) :
    (s.lowering).store = s.store := by simp [State.lowering]
@[simp] theorem State.lowering_out (s : State) :
    (s.lowering).out = s.out := by simp [State.lowering]
@[simp] theorem State.lowering_pending (s : State) :
    (s.lowering).pending = s.pending := by simp [State.lowering]

end Sys2Proof.Machine
end

