-- ==== Sys2Proof/Laws/Claims.lean ====
section
/-! SUPPORT. The claim unit's state is its own and the port power unit's: no operation of the lens controller, the exposure machines, the frame store, the scan sequencers, the port links or the locator's list touches it. -/

namespace Sys2Proof.Machine

/-! ### Lens.lean -/

@[simp] theorem sendExpose_claims (p : Port) (s : State) :
    (sendExpose p s).claims = s.claims := by
  unfold sendExpose
  dsimp only
  repeat' split
  all_goals simp

@[simp] theorem issueExpose_claims (p : Port) (mark : Bool) (s : State) :
    (issueExpose p mark s).claims = s.claims := by
  unfold issueExpose
  dsimp only
  repeat' split
  all_goals simp

@[simp] theorem axisLeft_claims (p : Port) (s : State) :
    (axisLeft p s).claims = s.claims := by
  unfold axisLeft; split <;> simp

@[simp] theorem markMoving_claims (p : Port) (s : State) :
    (markMoving p s).claims = s.claims := by
  unfold markMoving; split <;> simp

@[simp] theorem gate_claims (a : AxisId) (s : State) :
    (gate a s).claims = s.claims := by
  unfold gate
  dsimp only
  repeat' split
  all_goals simp

@[simp] theorem releaseAxis_claims (wait : AxisState) (a : AxisId) (s : State) :
    (releaseAxis wait a s).claims = s.claims := by
  unfold releaseAxis; split <;> simp

@[simp] theorem releaseWait_claims (wait : AxisState) (p : Port) (s : State) :
    (releaseWait wait p s).claims = s.claims := by
  simp [releaseWait]

@[simp] theorem passCheck_claims (a : AxisId) (r : Nat × Nat) (s : State) :
    (passCheck a r s).claims = s.claims := by
  simp [passCheck]

@[simp] theorem reevaluateFrom_claims (l : List AxisId) (s : State) :
    (reevaluateFrom l s).claims = s.claims := by
  induction l generalizing s with
  | nil => rfl
  | cons a rest ih =>
    unfold reevaluateFrom
    split
    · simp [ih]
    · rfl

@[simp] theorem reevaluate_claims (s : State) :
    (reevaluate s).claims = s.claims := by
  simp [reevaluate]

@[simp] theorem joinWaitList_claims (a : AxisId) (s : State) :
    (joinWaitList a s).claims = s.claims := by
  simp [joinWaitList]

@[simp] theorem leaveWaitList_claims (a : AxisId) (s : State) :
    (leaveWaitList a s).claims = s.claims := rfl

@[simp] theorem startMove_claims (a : AxisId) (s : State) :
    (startMove a s).1.claims = s.claims := by
  unfold startMove
  repeat' split
  all_goals simp

@[simp] theorem landAxis_claims (a : AxisId) (stopped : Bool) (s : State) :
    (landAxis a stopped s).claims = s.claims := by
  simp [landAxis]

@[simp] theorem land_claims (a : AxisId) (stopped : Bool) (s : State) :
    (land a stopped s).claims = s.claims := by
  unfold land
  dsimp only
  split <;> simp

@[simp] theorem haltAxis_claims (a : AxisId) (s : State) :
    (haltAxis a s).1.claims = s.claims := by
  unfold haltAxis
  dsimp only
  repeat' split
  all_goals simp

@[simp] theorem stopAxis_claims (a : AxisId) (s : State) :
    (stopAxis a s).1.claims = s.claims := by
  unfold stopAxis
  dsimp only
  split <;> simp

@[simp] theorem portOffline_claims (p : Port) (s : State) :
    (portOffline p s).claims = s.claims := by
  unfold portOffline
  dsimp only
  repeat' split
  all_goals simp

@[simp] theorem loseAxis_claims (a : AxisId) (following : Bool) (s : State) :
    (loseAxis a following s).claims = s.claims := by
  simp [loseAxis]

@[simp] theorem freezeAxis_claims (a : AxisId) (s : State) :
    (freezeAxis a s).claims = s.claims := by
  simp [freezeAxis]

@[simp] theorem sendSetpoint_claims (a : AxisId) (s : State) :
    (sendSetpoint a s).claims = s.claims := by
  unfold sendSetpoint; split <;> simp

@[simp] theorem endStop_claims (a : AxisId) (side : EndSide) (s : State) :
    (endStop a side s).claims = s.claims := by
  unfold endStop
  dsimp only
  repeat' split
  all_goals simp

@[simp] theorem guardAxis_claims (s : State) (a : AxisId) :
    (guardAxis s a).claims = s.claims := by
  unfold guardAxis
  dsimp only
  repeat' split
  all_goals simp

@[simp] theorem takeMove_claims (src : MoveSource) (a : AxisId) (t : Nat) (clamped : Bool)
    (s : State) :
    (takeMove src a t clamped s).1.claims = s.claims := by
  unfold takeMove
  dsimp only
  repeat' split
  all_goals simp

@[simp] theorem moveRequest_claims (src : MoveSource) (a : AxisId) (want : Int) (s : State) :
    (moveRequest src a want s).1.claims = s.claims := by
  unfold moveRequest
  dsimp only
  repeat' split
  all_goals simp

/-! ### Exposure.lean -/

@[simp] theorem missed_claims (p : Port) (o : Origin) (why : MissReason) (s : State) :
    (missed p o why s).claims = s.claims := by
  simp [missed]

@[simp] theorem abandonPiece_claims (p : Port) (s : State) :
    (abandonPiece p s).claims = s.claims := by
  unfold abandonPiece
  dsimp only
  repeat' split
  all_goals rfl

@[simp] theorem delayOver_claims (p : Port) (s : State) :
    (delayOver p s).claims = s.claims := by
  unfold delayOver
  repeat' split
  all_goals simp

@[simp] theorem takeExposure_claims (p : Port) (o : Origin) (delay : Nat) (s : State) :
    (takeExposure p o delay s).claims = s.claims := by
  unfold takeExposure; split <;> simp

@[simp] theorem requestCapture_claims (p : Port) (c : Capture) (s : State) :
    (requestCapture p c s).claims = s.claims := by
  unfold requestCapture; split <;> simp

@[simp] theorem toIdle_claims (p : Port) (s : State) :
    (toIdle p s).claims = s.claims := by
  unfold toIdle
  dsimp only
  repeat' split
  all_goals simp

@[simp] theorem abandonExposure_claims (p : Port) (s : State) :
    (abandonExposure p s).claims = s.claims := by
  unfold abandonExposure
  dsimp only
  repeat' split
  all_goals simp

@[simp] theorem applyToPort_claims (line sequence : Nat) (s : State) (p : Port) :
    (applyToPort line sequence s p).claims = s.claims := by
  unfold applyToPort
  repeat' split
  all_goals simp

@[simp] theorem setLine_claims (line : Nat) (e : LineEntry) (s : State) :
    (setLine line e s).claims = s.claims := rfl

theorem foldl_claims {α : Type} (f : State → α → State) (h : ∀ s a, (f s a).claims = s.claims)
    (l : List α) (s : State) : (l.foldl f s).claims = s.claims := by
  induction l generalizing s with
  | nil => rfl
  | cons a rest ih => simp [ih, h]

@[simp] theorem takeTrigger_claims (line sequence : Nat) (s : State) :
    (takeTrigger line sequence s).claims = s.claims := by
  unfold takeTrigger
  split
  · simp
  all_goals
    rw [foldl_claims _ (applyToPort_claims line sequence)]
    simp

@[simp] theorem State.setSense_claims (s : State) (input : Fin 2) (x : SenseInput) :
    (State.setSense s input x).claims = s.claims := by
  unfold State.setSense; split <;> simp

@[simp] theorem State.sensePending_claims (s : State) (input : Fin 2) (w : SensePending) :
    (State.sensePending s input w).claims = s.claims := by
  simp [State.sensePending]

@[simp] theorem dropEdge_claims (input : Fin 2) (cause : OverrunCause) (s : State) :
    (dropEdge input cause s).claims = s.claims := by
  simp [dropEdge]

/-! ### Frames.lean -/

@[simp] theorem State.setSlot_claims (s : State) (n : Nat) (x : Slot) :
    (State.setSlot s n x).claims = s.claims := rfl

@[simp] theorem judgeStore_claims (s : State) :
    (judgeStore s).claims = s.claims := by
  unfold judgeStore
  repeat' split
  all_goals simp

@[simp] theorem freeOne_claims (n : Nat) (s : State) :
    (freeOne n s).claims = s.claims := by
  simp [freeOne]

@[simp] theorem storeFrame_claims (p : Port) (e : Exposure) (o : Origin) (f : PixelFormat)
    (w h : Nat) (s : State) :
    (storeFrame p e o f w h s).claims = s.claims := by
  unfold storeFrame
  dsimp only
  repeat' split
  all_goals simp

@[simp] theorem markErrors_claims (p : Port) (s : State) :
    (markErrors p s).claims = s.claims := by
  unfold markErrors; split <;> simp

@[simp] theorem trySend_claims (s : State) :
    (trySend s).claims = s.claims := by
  unfold trySend
  repeat' split
  all_goals rfl

@[simp] theorem completeSlot_claims (p : Port) (cutShort : Bool) (res : MetricResult) (s : State) :
    (completeSlot p cutShort res s).claims = s.claims := by
  unfold completeSlot; split <;> simp

@[simp] theorem startAligning_claims (s : State) :
    (startAligning s).claims = s.claims := rfl

@[simp] theorem giveUp_claims (x : Send) (s : State) :
    (giveUp x s).claims = s.claims := by
  unfold giveUp
  dsimp only
  repeat' split
  all_goals simp

@[simp] theorem endSend_claims (x : Send) (s : State) :
    (endSend x s).claims = s.claims := by
  unfold endSend
  dsimp only
  repeat' split
  all_goals simp

/-! ### ScanRun.lean -/

@[simp] theorem abortLoader_claims (p : Port) (why : AbortDetail) (s : State) :
    (abortLoader p why s).claims = s.claims := by
  simp [abortLoader]

@[simp] theorem stopScanMove_claims (a : AxisId) (s : State) :
    (stopScanMove a s).claims = s.claims := by
  unfold stopScanMove
  dsimp only
  repeat' split
  all_goals simp

@[simp] theorem stopScanMoves_claims (p : Port) (s : State) :
    (stopScanMoves p s).claims = s.claims := by
  unfold stopScanMoves
  dsimp only
  split <;> simp

@[simp] theorem cancelScan_claims (p : Port) (why : CancelReason) (s : State) :
    (cancelScan p why s).claims = s.claims := by
  unfold cancelScan
  dsimp only
  repeat' split
  all_goals simp

@[simp] theorem settleOver_claims (p : Port) (s : State) :
    (settleOver p s).claims = s.claims := by
  simp [settleOver]

@[simp] theorem beginSettle_claims (p : Port) (s : State) :
    (beginSettle p s).claims = s.claims := by
  unfold beginSettle
  dsimp only
  repeat' split
  all_goals simp

@[simp] theorem finishScan_claims (p : Port) (s : State) :
    (finishScan p s).claims = s.claims := by
  simp [finishScan]

@[simp] theorem phaseOver_claims (p : Port) (s : State) :
    (phaseOver p s).claims = s.claims := by
  unfold phaseOver; split <;> simp

@[simp] theorem scanLanded_claims (a : AxisId) (s : State) :
    (scanLanded a s).claims = s.claims := by
  unfold scanLanded
  dsimp only
  repeat' split
  all_goals simp

@[simp] theorem requestMoves_claims (p : Port) (l : List (AxisName × Nat)) (s : State) :
    (requestMoves p l s).1.claims = s.claims := by
  induction l generalizing s with
  | nil => rfl
  | cons m rest ih =>
    obtain ⟨n, t⟩ := m
    unfold requestMoves
    dsimp only
    rw [ih]
    split <;> simp

@[simp] theorem issueMoves_claims (p : Port) (phase : RunPhase) (moves : List (AxisName × Nat))
    (s : State) :
    (issueMoves p phase moves s).claims = s.claims := by
  unfold issueMoves
  dsimp only
  repeat' split
  all_goals simp

@[simp] theorem stepMove_claims (p : Port) (s : State) :
    (stepMove p s).claims = s.claims := by
  simp [stepMove]

@[simp] theorem endAction_claims (p : Port) (s : State) :
    (endAction p s).claims = s.claims := by
  simp [endAction]

@[simp] theorem captureEnd_claims (p : Port) (c : Capture) (m : MetricResult) (s : State) :
    (captureEnd p c m s).claims = s.claims := by
  unfold captureEnd
  dsimp only
  repeat' split
  all_goals simp

@[simp] theorem beginRun_claims (p : Port) (s : State) :
    (beginRun p s).claims = s.claims := by
  unfold beginRun
  dsimp only
  repeat' split
  all_goals simp

@[simp] theorem closeFrame_claims (p : Port) (cutShort : Bool) (s : State) :
    (closeFrame p cutShort s).1.claims = s.claims := by
  simp [closeFrame]

@[simp] theorem endFrame_claims (p : Port) (cutShort : Bool) (s : State) :
    (endFrame p cutShort s).claims = s.claims := by
  unfold endFrame
  dsimp only
  repeat' split
  all_goals simp

/-! ### LinkOps.lean -/

@[simp] theorem enterTraining_claims (p : Port) (s : State) :
    (enterTraining p s).claims = s.claims := by
  simp [enterTraining]

@[simp] theorem cutFrame_claims (p : Port) (s : State) :
    (cutFrame p s).claims = s.claims := by
  unfold cutFrame; split <;> simp

@[simp] theorem loseLock_claims (p : Port) (d : Detail) (s : State) :
    (loseLock p d s).claims = s.claims := by
  simp [loseLock]

@[simp] theorem linkDark_claims (p : Port) (s : State) :
    (linkDark p s).claims = s.claims := by
  unfold linkDark
  dsimp only
  repeat' split
  all_goals simp

@[simp] theorem State.setEngine_claims (s : State) (e : Engine) :
    (State.setEngine s e).claims = s.claims := rfl

@[simp] theorem grantPiece_claims (s : State) :
    (grantPiece s).claims = s.claims := by
  unfold grantPiece
  dsimp only
  repeat' split
  all_goals simp

@[simp] theorem pieceEnd_claims (p : Port) (s : State) :
    (pieceEnd p s).claims = s.claims := by
  unfold pieceEnd
  dsimp only
  repeat' split
  all_goals simp

@[simp] theorem pieceReported_claims (p : Port) (s : State) :
    (pieceReported p s).claims = s.claims := by
  unfold pieceReported; split <;> simp

@[simp] theorem itemArrives_claims (p : Port) (s : State) :
    (itemArrives p s).claims = s.claims := by
  simp [itemArrives]

/-! ### Sweeps.lean -/

@[simp] theorem State.modLocator_claims (s : State) (f : Locator → Locator) :
    (State.modLocator s f).claims = s.claims := rfl

@[simp] theorem State.setStatus_claims (s : State) (p : Port) (k : SweepKind) (st : EntryStatus) :
    (State.setStatus s p k st).claims = s.claims := rfl

@[simp] theorem State.mergeSource_claims (s : State) (p : Port) (k : SweepKind)
    (src : SweepSource) :
    (State.mergeSource s p k src).claims = s.claims := rfl

@[simp] theorem State.addEntry_claims (s : State) (p : Port) (k : SweepKind) (src : SweepSource)
    (st : EntryStatus) :
    (State.addEntry s p k src st).claims = s.claims := rfl

@[simp] theorem linkHears_claims (p : Port) (s : State) :
    (linkHears p s).claims = s.claims := by
  unfold linkHears
  dsimp only
  repeat' split
  all_goals simp

@[simp] theorem writeResult_claims (p : Port) (r : SweepResult) (k : SweepKind) (s : State) :
    (writeResult p r k s).claims = s.claims := by
  unfold writeResult
  repeat' split
  all_goals simp

@[simp] theorem engineTake_claims (s : State) :
    (engineTake s).claims = s.claims := by
  unfold engineTake
  repeat' split
  all_goals simp

@[simp] theorem dropWork_claims (s : State) :
    (dropWork s).claims = s.claims := rfl

@[simp] theorem setSessionAside_claims (se : Session) (s : State) :
    (setSessionAside se s).claims = s.claims := by
  simp [setSessionAside]

@[simp] theorem afterPiece_claims (se : Session) (s : State) :
    (afterPiece se s).claims = s.claims := by
  unfold afterPiece; split <;> simp

@[simp] theorem cancelLive_claims (p : Port) (s : State) :
    (cancelLive p s).claims = s.claims := by
  unfold cancelLive
  dsimp only
  repeat' split
  all_goals simp

@[simp] theorem joinGathering_claims (p : Port) (s : State) :
    (joinGathering p s).claims = s.claims := rfl

@[simp] theorem leaveGathering_claims (p : Port) (s : State) :
    (leaveGathering p s).claims = s.claims := rfl

@[simp] theorem nextDark_claims (finished toCome : List Port) (s : State) :
    (nextDark finished toCome s).claims = s.claims := by
  unfold nextDark; split <;> simp

end Sys2Proof.Machine
end

