-- ==== Sys2Proof/Laws/Operations.lean ====
section
/-! SUPPORT. What the shared operations of reception, of the claim unit's withdrawals, of the frame out link and of the metric unit can do, each said once. -/

namespace Sys2Proof.Machine

/-! ### Receiving (R159, R167, R168) -/

/-- R159, R161, R163: the end of a notice acts on a hub with supplies that receives it; another hub's idle
count starts again. -/
theorem State.lineEvent_eq (s : State) (idle : Nat) (f : State → State) :
    s.lineEvent idle f = .next (if s.supplied then
      if s.line.follows then f s.fresh else unfollowed idle s.fresh
      else s.fresh) := rfl

/-- R167: what a reception row can do: for a hub that does not receive the notice the idle count starts
again, FLAW for one of sender 15 or of too many bytes, and its own effect for any other. -/
theorem State.receives_eq (s : State) (sender : BitVec 4) (bytes : Nat) (f : State → State) :
    s.receives sender bytes f = .next
      (if s.supplied then
        if s.line.follows then
          if sender = 15 ∨ 24 < bytes then flawNotice s.fresh else f s.fresh
        else unfollowed 0 s.fresh
      else s.fresh) := rfl

/-- R159: a hub that receives no notice and finds the line not free takes no reception row, and counts its
idle bit times anew. -/
theorem State.receives_deaf (s : State) (sender : BitVec 4) (bytes : Nat) (f : State → State)
    (hs : s.supplied = true) (h : s.line.follows = false) :
    s.receives sender bytes f = .next (unfollowed 0 s.fresh) := by
  simp [State.receives_eq, hs, h]

/-- R163: bits that the hub does not follow touch its idle count alone. -/
theorem unfollowed_frame (idle : Nat) (s : State) :
    { unfollowed idle s with line := { (unfollowed idle s).line with idle := s.line.idle } } = s := rfl

/-- R159, R163: outside an attempt the idle count is what the bits leave. -/
theorem unfollowed_idle (idle : Nat) (s : State) :
    (unfollowed idle s).line.idle = if s.line.tx = .attempt then s.line.idle else idle := rfl

@[simp] theorem receiveFault_receiving (idle : Nat) (s : State) :
    (receiveFault idle s).line.receiving = false := rfl

/-- R159: a tick takes the idle count up to 11 where no notice is on the line, and leaves it else. -/
theorem LineIf.tick_idle (l : LineIf) :
    l.tick.idle = if l.tx = .attempt ∨ l.receiving = true then l.idle else min (l.idle + 1) 11 := by
  simp [LineIf.tick, LineIf.idled, Config.idleBits]

/-- R38, R168: a notice that arrives without error: its own number is counted, another sender is heard. -/
theorem hearNotice_eq (sender : BitVec 4) (hold : Bool) (s : State) :
    hearNotice sender hold s =
      let u := (s.modLine fun l => { l with idle := 0, receiving := false }).emit (.trailer true false hold)
      if sender.toNat = s.station then
        u.modCounters fun c => { c with sameNumber := holdInc 65535 c.sameNumber }
      else { u with view := hear sender.toNat s.hubTime s.view } := rfl

/-- R168: hearing a notice touches the cell view, the line interface and what the hub puts out alone. -/
theorem hearNotice_frame (sender : BitVec 4) (hold : Bool) (s : State) :
    { hearNotice sender hold s with view := s.view, line := s.line, out := s.out } = s := by
  by_cases h : sender.toNat = s.station <;>
    (simp only [hearNotice_eq, h, if_true, if_false]; rfl)

/-- R168: the hub drives HEARD, and HOLD where it objects. -/
@[simp] theorem hearNotice_out (sender : BitVec 4) (hold : Bool) (s : State) :
    (hearNotice sender hold s).out = s.out ++ [.trailer true false hold] := by
  by_cases h : sender.toNat = s.station <;>
    (simp only [hearNotice_eq, h, if_true, if_false]; rfl)

/-- R34, R38: a notice of the own number is no word of the own entry. -/
theorem hearNotice_view (sender : BitVec 4) (hold : Bool) (s : State) :
    (hearNotice sender hold s).view
      = if sender.toNat = s.station then s.view else hear sender.toNat s.hubTime s.view := by
  by_cases h : sender.toNat = s.station
  · simp only [hearNotice_eq, h, if_true]; rfl
  · simp only [hearNotice_eq, h, if_false]

/-- R167: a receive error touches the line interface alone. -/
theorem receiveFault_frame (idle : Nat) (s : State) :
    { receiveFault idle s with line := s.line } = s := rfl

@[simp] theorem receiveFault_idle (idle : Nat) (s : State) :
    (receiveFault idle s).line.idle = idle := rfl

@[simp] theorem receiveFault_rxErrors (idle : Nat) (s : State) :
    (receiveFault idle s).line.counters.rxErrors = holdInc 65535 s.line.counters.rxErrors := rfl

@[simp] theorem flawNotice_out (s : State) :
    (flawNotice s).out = s.out ++ [.trailer false true false] := rfl

/-! ### Withdrawals (R24, R29) -/

/-- R24: what stays in the claim queue when a port's request of one kind is withdrawn. -/
@[simp] theorem dropRequest_queue (p : Port) (correction : Bool) (s : State) :
    (dropRequest p correction s).claims.queue
      = s.claims.queue.filter fun q => !q.isOf p correction := rfl

/-- R29: the claim in flight goes on, marked where it is the one withdrawn. -/
@[simp] theorem dropRequest_inFlight (p : Port) (correction : Bool) (s : State) :
    (dropRequest p correction s).claims.inFlight
      = s.claims.inFlight.map fun c =>
          { c with withdrawn := c.withdrawn || c.req.isOf p correction } := rfl

@[simp] theorem dropRequest_granted (p : Port) (correction : Bool) (s : State) :
    (dropRequest p correction s).claims.granted = s.claims.granted := rfl

@[simp] theorem dropRequest_ports (p : Port) (correction : Bool) (s : State) :
    (dropRequest p correction s).ports = s.ports := rfl

/-! ### The claim queue and the claim in flight (R24, R26, R164) -/

@[simp] theorem joinClaims_queue (q : ClaimReq) (s : State) :
    (joinClaims q s).claims.queue = (s.claims.queue.filter fun x => x.port != q.port) ++ [q] := rfl

@[simp] theorem joinClaims_ports (q : ClaimReq) (s : State) : (joinClaims q s).ports = s.ports := rfl

/-- R26, R29: a claim is composed for its request, and marked where the port has left the request's state. -/
theorem composed_req (q : ClaimReq) (s : State) :
    (composed s q).req = q ∧ (composed s q).withdrawn = s.hasLeft q := by
  unfold composed; split <;> exact ⟨rfl, rfl⟩

@[simp] theorem takeBackClaim_ports (s : State) : (takeBackClaim s).ports = s.ports := by
  unfold takeBackClaim; split <;> rfl

/-- R24, R41: a claim taken back leaves none in flight; its request stands at the head, unless it was withdrawn and
a newer one of its port waits. -/
theorem takeBackClaim_queue (s : State) (c : ClaimInFlight) (h : s.claims.inFlight = some c) :
    (takeBackClaim s).claims.inFlight = none
      ∧ ((takeBackClaim s).claims.queue = c.req :: s.claims.queue
        ∨ c.withdrawn = true ∧ (takeBackClaim s).claims.queue = s.claims.queue) := by
  simp only [takeBackClaim, h]
  split <;> simp_all

/-! ### The return to IDLE (R90, R99) and the load of a parameter set (R62) -/

/-- R90: with no capture held, the machine only returns to IDLE. -/
theorem toIdle_none (p : Port) (s : State) (h : (s.port p).exposure.held = none) :
    toIdle p s = s.modExposure p Exposure.cleared := by
  simp [toIdle, State.modExposure_port, Exposure.cleared, h]

/-- R99: a capture held is taken in the event of the return to IDLE, with no delay. -/
theorem toIdle_some (p : Port) (c : Capture) (s : State) (h : (s.port p).exposure.held = some c) :
    toIdle p s = takeExposure p (.scan c) 0
      ((s.modExposure p Exposure.cleared).modExposure p fun e => { e with held := none }) := by
  simp [toIdle, State.modExposure_port, Exposure.cleared, h]

@[simp] theorem AxisRec.load_params (x : AxisRec) : x.load.params = x.shadow.load := rfl
@[simp] theorem AxisRec.load_staged (x : AxisRec) : x.load.staged = false := rfl
@[simp] theorem AxisRec.load_state (x : AxisRec) : x.load.state = x.state := rfl
@[simp] theorem AxisRec.load_hold (x : AxisRec) : x.load.hold = x.hold := rfl

/-! ### The frame out link's send (R112, R113) -/

@[simp] theorem Send.tick_slot (x : Send) (r : Option SlotRecord) : (x.tick r).slot = x.slot := by
  unfold Send.tick
  split
  · split <;> rfl
  · rfl

@[simp] theorem Send.tick_bytesSent (x : Send) (r : Option SlotRecord) :
    (x.tick r).bytesSent = x.bytesSent := by
  unfold Send.tick
  split
  · split <;> rfl
  · rfl

@[simp] theorem Send.tick_paused (x : Send) (r : Option SlotRecord) :
    (x.tick r).paused = x.paused := by
  unfold Send.tick
  split
  · split <;> rfl
  · rfl

/-! ### The frame of the metric unit (R122, R123) -/

/-- R123: closing a frame ends it, and marks it where its result is partial. -/
theorem Metric.closed_active (m : Metric) (cutShort : Bool) :
    (m.closed cutShort).active = false ∧ (m.closed cutShort).scanFrame = false
      ∧ (m.active = true → (m.closed cutShort).partialMark = (m.close cutShort).partialMark) :=
  ⟨rfl, rfl, fun h => by simp [Metric.closed, h]⟩

/-- R122: a pixel outside the ROI's columns adds nothing to the row. -/
theorem Metric.roiPixel_outside (m : Metric) (a : Roi) (x v : Nat)
    (h : x < a.x0 ∨ a.x1 < x ∨ x < m.nextCol) : m.roiPixel a x v = m := by
  simp [Metric.roiPixel, h]

end Sys2Proof.Machine
end

