-- ==== Sys2Proof/WellFormed.lean ====
section
/-! DEFINITION. Which commands the hub's surroundings can send at all: the checks on a command's operands. -/

namespace Sys2Proof

/-- R167: sender field 15 is a receive error, so no notice is ever handed on with it. -/
def senderOk (sender : BitVec 4) : Bool := sender != 15

/-- R43: a frame announces at least one pixel and one row (R104: 1 to 65,535 each). -/
def frameSizeOk (width height : BitVec 16) : Bool := width != 0 && height != 0

/-- R148: a trace has 2,048 bins. -/
def traceOk (t : Trace) : Bool := t.length == Config.bins

/-- R147: a calibration has 16 traces. -/
def tracesOk (ts : List Trace) : Bool := ts.length == 16 && ts.all traceOk

/-- R167: a notice that broke off has no trailer. -/
def rxErrorOk : RxError → Bool → Bool
  | .brokeOff _, reachesTrailer => !reachesTrailer
  | _, _ => true

/-- Row data stays within a row of at most 65,535 pixels (R104). -/
def pixelsOk (column : BitVec 16) (pixels : List (BitVec 12)) : Bool :=
  pixels.length != 0 && column.toNat + pixels.length ≤ 65535

/-- The head of a command row, if the command has one. -/
def Instr.head? : Instr → Option CmdHead
  | .portPowerOn h _ => some h
  | .portPowerOff h _ => some h
  | .setLockout h _ => some h
  | .clearLockout h _ _ => some h
  | .portStatus h _ => some h
  | .forgetStation h _ => some h
  | .readCellView h => some h
  | .lensMove h _ _ _ => some h
  | .lensStop h _ => some h
  | .lensSetParam h _ _ _ => some h
  | .lensRecover h _ => some h
  | .freezeRelease h => some h
  | .axisStatus h _ => some h
  | .scanBegin h _ _ _ _ _ => some h
  | .scanStep h _ _ _ _ _ _ _ => some h
  | .scanRun h _ => some h
  | .scanAbortClear h _ => some h
  | .scanCancel h _ => some h
  | .scanResult h _ => some h
  | .frameRelease h _ => some h
  | .frameResend h _ => some h
  | .frameHeader h _ => some h
  | .storeStatus h => some h
  | .readMissed h _ => some h
  | .sweepStart h _ _ _ => some h
  | .sweepCancel h _ => some h
  | .sweepResult h _ => some h
  | .readEvents h _ => some h
  | .configWrite h _ _ _ => some h
  | .configCommit h => some h
  | .restart h => some h
  | .start .. => none
  | .currentSample .. => none
  | .inrushEnd .. => none
  | .settleEnd => none
  | .backoffExpiry => none
  | .refreshExpiry => none
  | .surgeExpiry _ => none
  | .entryStale _ => none
  | .attemptBegin => none
  | .arbitrationLost => none
  | .transmitFailure => none
  | .muteEnd => none
  | .attemptEnd .. => none
  | .triggerReceived .. => none
  | .claimReceived .. => none
  | .standingReceived .. => none
  | .commandReceived .. => none
  | .otherNoticeReceived .. => none
  | .receiveError .. => none
  | .lockReport .. => none
  | .streamLost _ => none
  | .resumeCheckExpiry _ => none
  | .trainingTimeout _ => none
  | .errorWindowEnd _ => none
  | .codeError _ => none
  | .frameStart .. => none
  | .pixelData .. => none
  | .frameEnd .. => none
  | .positionReport .. => none
  | .lensUpdate _ => none
  | .holdExpiry _ => none
  | .guardActivated => none
  | .guardReleased => none
  | .senseEdge _ => none
  | .abandonStop _ => none
  | .delayEnd _ => none
  | .deferExpiry _ => none
  | .exposeTimeout _ => none
  | .scanSettleEnd _ => none
  | .acquisitionComplete _ => none
  | .calibrationComplete _ => none
  | .gatheringWindowExpiry => none
  | .deadlineExpiry => none
  | .terminationPresent => none
  | .terminationLost => none
  | .alignEnd => none
  | .readyHigh => none
  | .readyLow => none
  | .sendPaused _ => none
  | .sendEnd => none
  | .storeWriteEnd _ => none
  | .powerLoss => none

/-- The checks on the operands of the rows that are not commands of the catalogue. -/
def Instr.operandsOk : Instr → Bool
  | .surgeExpiry st => st != 15
  | .entryStale st => st != 15
  | .triggerReceived sender _ _ _ => senderOk sender
  | .claimReceived sender _ _ _ _ _ _ => senderOk sender
  | .standingReceived sender _ _ => senderOk sender
  | .commandReceived sender _ payload => senderOk sender && payload.length ≤ 24
  | .otherNoticeReceived sender _ kind => senderOk sender && 4 ≤ kind.toNat
  | .receiveError e reachesTrailer => rxErrorOk e reachesTrailer
  | .frameStart _ _ width height => frameSizeOk width height
  | .pixelData _ _ column pixels => pixelsOk column pixels
  | .acquisitionComplete t => traceOk t
  | .calibrationComplete ts => tracesOk ts
  | .sendPaused bytesSent => bytesSent ≤ Config.slotBytes
  | _ => true

/-- A command that the hub's surroundings can send. -/
def Instr.wf (i : Instr) : Bool :=
  (i.head?.all fun h => senderOk h.sender) && i.operandsOk

end Sys2Proof
end

