-- ==== Sys2Proof/Laws/PerInstr.lean ====
section
/-! SUPPORT. One statement for every command: a row of the catalogue carries a command with its head, and that command's code, tag and arguments fit a COMMAND notice. -/

namespace Sys2Proof.Laws.Family

/-- 12.2: a row of the catalogue has the head of the command it carries; that command has one of the codes
1 to 31, and with its code and its tag its arguments fit the 24 bytes of a payload (R158). The rows that are
events carry no command. -/
def Statement (i : Instr) : Prop :=
  i.cmd?.map Prod.fst = i.head?
    ∧ ∀ h c, i.cmd? = some (h, c) →
        0 < c.code.toNat ∧ c.code.toNat < 32 ∧ 2 + c.args.length ≤ 24

/-- A row that carries the command `c`. -/
theorem carries {i : Instr} {h : CmdHead} (c : Cmd) (hc : i.cmd? = some (h, c))
    (hh : i.head? = some h) (low : decide (0 < c.code.toNat) = true)
    (high : decide (c.code.toNat < 32) = true) (size : Nat.ble (2 + c.args.length) 24 = true) :
    Statement i :=
  ⟨by rw [hc, hh]; rfl, fun h' c' e => by
    rw [hc] at e
    cases e
    exact ⟨of_decide_eq_true low, of_decide_eq_true high, Nat.le_of_ble_eq_true size⟩⟩

/-- A row that is an event. -/
theorem event {i : Instr} (hc : i.cmd? = none) (hh : i.head? = none) : Statement i :=
  ⟨by rw [hc, hh]; rfl, fun h c e => by rw [hc] at e; cases e⟩

theorem portPowerOn (h : CmdHead) (port : Byte) :
    Statement (.portPowerOn h port) := carries _ rfl rfl rfl rfl rfl
theorem portPowerOff (h : CmdHead) (port : Byte) :
    Statement (.portPowerOff h port) := carries _ rfl rfl rfl rfl rfl
theorem setLockout (h : CmdHead) (port : Byte) :
    Statement (.setLockout h port) := carries _ rfl rfl rfl rfl rfl
theorem clearLockout (h : CmdHead) (port kind : Byte) :
    Statement (.clearLockout h port kind) := carries _ rfl rfl rfl rfl rfl
theorem portStatus (h : CmdHead) (port : Byte) :
    Statement (.portStatus h port) := carries _ rfl rfl rfl rfl rfl
theorem forgetStation (h : CmdHead) (station : Byte) :
    Statement (.forgetStation h station) := carries _ rfl rfl rfl rfl rfl
theorem readCellView (h : CmdHead) :
    Statement (.readCellView h) := carries _ rfl rfl rfl rfl rfl
theorem lensMove (h : CmdHead) (axis mode : Byte) (target : BitVec 24) :
    Statement (.lensMove h axis mode target) := carries _ rfl rfl rfl rfl rfl
theorem lensStop (h : CmdHead) (axis : Byte) :
    Statement (.lensStop h axis) := carries _ rfl rfl rfl rfl rfl
theorem lensSetParam (h : CmdHead) (axis param : Byte) (value : BitVec 16) :
    Statement (.lensSetParam h axis param value) := carries _ rfl rfl rfl rfl rfl
theorem lensRecover (h : CmdHead) (axis : Byte) :
    Statement (.lensRecover h axis) := carries _ rfl rfl rfl rfl rfl
theorem freezeRelease (h : CmdHead) :
    Statement (.freezeRelease h) := carries _ rfl rfl rfl rfl rfl
theorem axisStatus (h : CmdHead) (axis : Byte) :
    Statement (.axisStatus h axis) := carries _ rfl rfl rfl rfl rfl
theorem scanBegin (h : CmdHead) (port count passes endAction storeFrames : Byte) :
    Statement (.scanBegin h port count passes endAction storeFrames) := carries _ rfl rfl rfl rfl rfl
theorem scanStep (h : CmdHead) (port index : Byte) (focus : BitVec 16) (irisPresent : Byte) (iris :
    BitVec 16) (captures settle : Byte) :
    Statement (.scanStep h port index focus irisPresent iris captures settle) := carries _ rfl rfl rfl rfl rfl
theorem scanRun (h : CmdHead) (port : Byte) :
    Statement (.scanRun h port) := carries _ rfl rfl rfl rfl rfl
theorem scanAbortClear (h : CmdHead) (port : Byte) :
    Statement (.scanAbortClear h port) := carries _ rfl rfl rfl rfl rfl
theorem scanCancel (h : CmdHead) (port : Byte) :
    Statement (.scanCancel h port) := carries _ rfl rfl rfl rfl rfl
theorem scanResult (h : CmdHead) (port : Byte) :
    Statement (.scanResult h port) := carries _ rfl rfl rfl rfl rfl
theorem frameRelease (h : CmdHead) (slot : Byte) :
    Statement (.frameRelease h slot) := carries _ rfl rfl rfl rfl rfl
theorem frameResend (h : CmdHead) (slot : Byte) :
    Statement (.frameResend h slot) := carries _ rfl rfl rfl rfl rfl
theorem frameHeader (h : CmdHead) (slot : Byte) :
    Statement (.frameHeader h slot) := carries _ rfl rfl rfl rfl rfl
theorem storeStatus (h : CmdHead) :
    Statement (.storeStatus h) := carries _ rfl rfl rfl rfl rfl
theorem readMissed (h : CmdHead) (record : BitVec 16) :
    Statement (.readMissed h record) := carries _ rfl rfl rfl rfl rfl
theorem sweepStart (h : CmdHead) (port kind powerDownOk : Byte) :
    Statement (.sweepStart h port kind powerDownOk) := carries _ rfl rfl rfl rfl rfl
theorem sweepCancel (h : CmdHead) (port : Byte) :
    Statement (.sweepCancel h port) := carries _ rfl rfl rfl rfl rfl
theorem sweepResult (h : CmdHead) (port : Byte) :
    Statement (.sweepResult h port) := carries _ rfl rfl rfl rfl rfl
theorem readEvents (h : CmdHead) (release : BitVec 32) :
    Statement (.readEvents h release) := carries _ rfl rfl rfl rfl rfl
theorem configWrite (h : CmdHead) (item index : Byte) (value : BitVec 32) :
    Statement (.configWrite h item index value) := carries _ rfl rfl rfl rfl rfl
theorem configCommit (h : CmdHead) :
    Statement (.configCommit h) := carries _ rfl rfl rfl rfl rfl
theorem restart (h : CmdHead) :
    Statement (.restart h) := carries _ rfl rfl rfl rfl rfl
theorem start (cause : StartCause) (straps : BitVec 4) (guardActive readyHigh terminated : Bool) :
    Statement (.start cause straps guardActive readyHigh terminated) := event rfl rfl
theorem currentSample (port : Port) (sample : BitVec 16) :
    Statement (.currentSample port sample) := event rfl rfl
theorem inrushEnd (port : Port) (limiterActive : Bool) :
    Statement (.inrushEnd port limiterActive) := event rfl rfl
theorem settleEnd :
    Statement (.settleEnd) := event rfl rfl
theorem backoffExpiry :
    Statement (.backoffExpiry) := event rfl rfl
theorem refreshExpiry :
    Statement (.refreshExpiry) := event rfl rfl
theorem surgeExpiry (station : BitVec 4) :
    Statement (.surgeExpiry station) := event rfl rfl
theorem entryStale (station : BitVec 4) :
    Statement (.entryStale station) := event rfl rfl
theorem attemptBegin :
    Statement (.attemptBegin) := event rfl rfl
theorem arbitrationLost :
    Statement (.arbitrationLost) := event rfl rfl
theorem transmitFailure :
    Statement (.transmitFailure) := event rfl rfl
theorem muteEnd :
    Statement (.muteEnd) := event rfl rfl
theorem attemptEnd (heard flaw hold : Bool) :
    Statement (.attemptEnd heard flaw hold) := event rfl rfl
theorem triggerReceived (sender target : BitVec 4) (lineByte sequence : Byte) :
    Statement (.triggerReceived sender target lineByte sequence) := event rfl rfl
theorem claimReceived (sender target : BitVec 4) (standing surge lifetime : BitVec 16) (peerFlaw
    peerHold : Bool) :
    Statement (.claimReceived sender target standing surge lifetime peerFlaw peerHold) := event rfl rfl
theorem standingReceived (sender target : BitVec 4) (standing : BitVec 16) :
    Statement (.standingReceived sender target standing) := event rfl rfl
theorem commandReceived (sender target : BitVec 4) (payload : List Byte) :
    Statement (.commandReceived sender target payload) := event rfl rfl
theorem otherNoticeReceived (sender target : BitVec 4) (kind : BitVec 3) :
    Statement (.otherNoticeReceived sender target kind) := event rfl rfl
theorem receiveError (error : RxError) (reachesTrailer : Bool) :
    Statement (.receiveError error reachesTrailer) := event rfl rfl
theorem lockReport (port : Port) (locked : Bool) :
    Statement (.lockReport port locked) := event rfl rfl
theorem streamLost (port : Port) :
    Statement (.streamLost port) := event rfl rfl
theorem resumeCheckExpiry (port : Port) :
    Statement (.resumeCheckExpiry port) := event rfl rfl
theorem trainingTimeout (port : Port) :
    Statement (.trainingTimeout port) := event rfl rfl
theorem errorWindowEnd (port : Port) :
    Statement (.errorWindowEnd port) := event rfl rfl
theorem codeError (port : Port) :
    Statement (.codeError port) := event rfl rfl
theorem frameStart (port : Port) (format : PixelFormat) (width height : BitVec 16) :
    Statement (.frameStart port format width height) := event rfl rfl
theorem pixelData (port : Port) (row column : BitVec 16) (pixels : List (BitVec 12)) :
    Statement (.pixelData port row column pixels) := event rfl rfl
theorem frameEnd (port : Port) (rowsSent : BitVec 16) :
    Statement (.frameEnd port rowsSent) := event rfl rfl
theorem positionReport (port : Port) (focus iris : HeadReport) :
    Statement (.positionReport port focus iris) := event rfl rfl
theorem lensUpdate (axis : AxisId) :
    Statement (.lensUpdate axis) := event rfl rfl
theorem holdExpiry (axis : AxisId) :
    Statement (.holdExpiry axis) := event rfl rfl
theorem guardActivated :
    Statement (.guardActivated) := event rfl rfl
theorem guardReleased :
    Statement (.guardReleased) := event rfl rfl
theorem senseEdge (input : Fin 2) :
    Statement (.senseEdge input) := event rfl rfl
theorem abandonStop (port : Port) :
    Statement (.abandonStop port) := event rfl rfl
theorem delayEnd (port : Port) :
    Statement (.delayEnd port) := event rfl rfl
theorem deferExpiry (port : Port) :
    Statement (.deferExpiry port) := event rfl rfl
theorem exposeTimeout (port : Port) :
    Statement (.exposeTimeout port) := event rfl rfl
theorem scanSettleEnd (port : Port) :
    Statement (.scanSettleEnd port) := event rfl rfl
theorem acquisitionComplete (trace : Trace) :
    Statement (.acquisitionComplete trace) := event rfl rfl
theorem calibrationComplete (traces : List Trace) :
    Statement (.calibrationComplete traces) := event rfl rfl
theorem gatheringWindowExpiry :
    Statement (.gatheringWindowExpiry) := event rfl rfl
theorem deadlineExpiry :
    Statement (.deadlineExpiry) := event rfl rfl
theorem terminationPresent :
    Statement (.terminationPresent) := event rfl rfl
theorem terminationLost :
    Statement (.terminationLost) := event rfl rfl
theorem alignEnd :
    Statement (.alignEnd) := event rfl rfl
theorem readyHigh :
    Statement (.readyHigh) := event rfl rfl
theorem readyLow :
    Statement (.readyLow) := event rfl rfl
theorem sendPaused (bytesSent : Nat) :
    Statement (.sendPaused bytesSent) := event rfl rfl
theorem sendEnd :
    Statement (.sendEnd) := event rfl rfl
theorem storeWriteEnd (readBack : Bool) :
    Statement (.storeWriteEnd readBack) := event rfl rfl
theorem powerLoss :
    Statement (.powerLoss) := event rfl rfl

end Sys2Proof.Laws.Family
end

