-- ==== Sys2Proof/Laws/Powers.lean ====
section
/-! SUPPORT. The power parts of the four ports are the port power unit's alone: no operation of the lens controller, the exposure machines, the frame store, the scan sequencers, the port links or the locator's list touches them. -/

namespace Sys2Proof.Machine

/-- The power parts of the four ports. -/
def State.powers (s : State) : Four PowerPart := s.ports.map fun r => r.power

@[simp] theorem State.powers_get (s : State) (p : Port) : s.powers.get p = (s.port p).power :=
  Four.get_map _ s.ports p

theorem Four.map_set {α β : Type} (g : α → β) (f : Four α) (p : Port) (a : α) :
    (f.set p a).map g = (f.map g).set p (g a) := by
  match p with
  | 0 => rfl
  | 1 => rfl
  | 2 => rfl
  | 3 => rfl

theorem Four.set_get {α : Type} (f : Four α) (p : Port) : f.set p (f.get p) = f := by
  match p with
  | 0 => rfl
  | 1 => rfl
  | 2 => rfl
  | 3 => rfl

/-- A port record that keeps its power part keeps the power parts of all. -/
theorem State.setPort_powers (s : State) (p : Port) (r : PortRec)
    (h : r.power = (s.port p).power) : (s.setPort p r).powers = s.powers := by
  simp only [State.powers, State.setPort, Four.map_set, h]
  rw [State.port, ← Four.get_map (fun r : PortRec => r.power), Four.set_get]

theorem State.modPort_powers (s : State) (p : Port) (f : PortRec → PortRec)
    (h : (f (s.port p)).power = (s.port p).power) : (s.modPort p f).powers = s.powers :=
  State.setPort_powers s p _ h

@[simp] theorem State.fresh_powers (s : State) : s.fresh.powers = s.powers := rfl

@[simp] theorem State.modLink_powers (s : State) (p : Port) (f : LinkPart → LinkPart) :
    (s.modLink p f).powers = s.powers := 
  State.modPort_powers s _ _ rfl

@[simp] theorem State.modExposure_powers (s : State) (p : Port) (f : Exposure → Exposure) :
    (s.modExposure p f).powers = s.powers := 
  State.modPort_powers s _ _ rfl

@[simp] theorem State.modScan_powers (s : State) (p : Port) (f : Scan → Scan) :
    (s.modScan p f).powers = s.powers := 
  State.modPort_powers s _ _ rfl

@[simp] theorem State.modMetric_powers (s : State) (p : Port) (f : Metric → Metric) :
    (s.modMetric p f).powers = s.powers := 
  State.modPort_powers s _ _ rfl

@[simp] theorem State.setAxis_powers (s : State) (a : AxisId) (x : AxisRec) :
    (s.setAxis a x).powers = s.powers := 
  State.modPort_powers s _ _ (by simp)

@[simp] theorem State.modAxis_powers (s : State) (a : AxisId) (f : AxisRec → AxisRec) :
    (s.modAxis a f).powers = s.powers := 
  State.modPort_powers s _ _ (by simp)

@[simp] theorem State.emit_powers (s : State) (o : Out) : (s.emit o).powers = s.powers := rfl

@[simp] theorem State.joinTx_powers (s : State) (b : TxBody) : (s.joinTx b).powers = s.powers := rfl

@[simp] theorem State.modCounters_powers (s : State) (f : LineCounters → LineCounters) :
    (s.modCounters f).powers = s.powers := rfl

@[simp] theorem State.countReportLost_powers (s : State) :
    (s.countReportLost).powers = s.powers := rfl

@[simp] theorem State.countReplyLost_powers (s : State) :
    (s.countReplyLost).powers = s.powers := rfl

@[simp] theorem State.announce_powers (s : State) (n : Nat) (g : Option Surge) :
    (s.announce n g).powers = s.powers := rfl

@[simp] theorem State.latch_powers (s : State) (e : EventName) (p : Option Port) (d : Detail) :
    (s.latch e p d).powers = s.powers := by simp [State.powers]

@[simp] theorem State.offerStanding_powers (s : State) : s.offerStanding.powers = s.powers := by
  simp [State.powers]

@[simp] theorem State.offerReport_powers (s : State) (r : Report) :
    (s.offerReport r).powers = s.powers := by simp [State.powers]

@[simp] theorem State.lowering_powers
    (s : State) : s.lowering.powers = s.powers := by simp [State.powers]

/-- A state written out field by field has the power parts of its port records. -/
@[simp] theorem State.mk_powers (supplied straps station hubTime freeCount ports claims view lens
    triggers frames outLink locator line commands events nv store out pending) :
    (State.mk supplied straps station hubTime freeCount ports claims view lens triggers frames
      outLink locator line commands events nv store out pending).powers
      = ports.map fun r => r.power := rfl

@[simp] theorem State.ports_map_power (s : State) :
    (s.ports.map fun r => r.power) = s.powers := rfl

/-! ### Lens.lean -/

@[simp] theorem sendExpose_powers (p : Port) (s : State) :
    (sendExpose p s).powers = s.powers := by
  unfold sendExpose
  dsimp only
  repeat' split
  all_goals simp

@[simp] theorem issueExpose_powers (p : Port) (mark : Bool) (s : State) :
    (issueExpose p mark s).powers = s.powers := by
  unfold issueExpose
  dsimp only
  repeat' split
  all_goals simp

@[simp] theorem axisLeft_powers (p : Port) (s : State) :
    (axisLeft p s).powers = s.powers := by
  unfold axisLeft; split <;> simp

@[simp] theorem markMoving_powers (p : Port) (s : State) :
    (markMoving p s).powers = s.powers := by
  unfold markMoving; split <;> simp

@[simp] theorem gate_powers (a : AxisId) (s : State) :
    (gate a s).powers = s.powers := by
  unfold gate
  dsimp only
  repeat' split
  all_goals simp

@[simp] theorem releaseAxis_powers (wait : AxisState) (a : AxisId) (s : State) :
    (releaseAxis wait a s).powers = s.powers := by
  unfold releaseAxis; split <;> simp

@[simp] theorem releaseWait_powers (wait : AxisState) (p : Port) (s : State) :
    (releaseWait wait p s).powers = s.powers := by
  simp [releaseWait]

@[simp] theorem passCheck_powers (a : AxisId) (r : Nat × Nat) (s : State) :
    (passCheck a r s).powers = s.powers := by
  simp [passCheck]

@[simp] theorem reevaluateFrom_powers (l : List AxisId) (s : State) :
    (reevaluateFrom l s).powers = s.powers := by
  induction l generalizing s with
  | nil => rfl
  | cons a rest ih =>
    unfold reevaluateFrom
    split
    · simp [ih]
    · rfl

@[simp] theorem reevaluate_powers (s : State) :
    (reevaluate s).powers = s.powers := by
  simp [reevaluate]

@[simp] theorem joinWaitList_powers (a : AxisId) (s : State) :
    (joinWaitList a s).powers = s.powers := by
  simp [joinWaitList]

@[simp] theorem leaveWaitList_powers (a : AxisId) (s : State) :
    (leaveWaitList a s).powers = s.powers := rfl

@[simp] theorem startMove_powers (a : AxisId) (s : State) :
    (startMove a s).1.powers = s.powers := by
  unfold startMove
  repeat' split
  all_goals simp

@[simp] theorem landAxis_powers (a : AxisId) (stopped : Bool) (s : State) :
    (landAxis a stopped s).powers = s.powers := by
  simp [landAxis]

@[simp] theorem land_powers (a : AxisId) (stopped : Bool) (s : State) :
    (land a stopped s).powers = s.powers := by
  unfold land
  dsimp only
  split <;> simp

@[simp] theorem haltAxis_powers (a : AxisId) (s : State) :
    (haltAxis a s).1.powers = s.powers := by
  unfold haltAxis
  dsimp only
  repeat' split
  all_goals simp

@[simp] theorem stopAxis_powers (a : AxisId) (s : State) :
    (stopAxis a s).1.powers = s.powers := by
  unfold stopAxis
  dsimp only
  split <;> simp

@[simp] theorem portOffline_powers (p : Port) (s : State) :
    (portOffline p s).powers = s.powers := by
  unfold portOffline
  dsimp only
  split
  · rfl
  · rw [reevaluate_powers, axisLeft_powers, State.mk_powers, State.ports_map_power]
    exact State.setPort_powers s p _ rfl

@[simp] theorem loseAxis_powers (a : AxisId) (following : Bool) (s : State) :
    (loseAxis a following s).powers = s.powers := by
  simp [loseAxis]

@[simp] theorem freezeAxis_powers (a : AxisId) (s : State) :
    (freezeAxis a s).powers = s.powers := by
  simp [freezeAxis]

@[simp] theorem sendSetpoint_powers (a : AxisId) (s : State) :
    (sendSetpoint a s).powers = s.powers := by
  unfold sendSetpoint; split <;> simp

@[simp] theorem endStop_powers (a : AxisId) (side : EndSide) (s : State) :
    (endStop a side s).powers = s.powers := by
  unfold endStop
  dsimp only
  repeat' split
  all_goals simp

@[simp] theorem guardAxis_powers (s : State) (a : AxisId) :
    (guardAxis s a).powers = s.powers := by
  unfold guardAxis
  dsimp only
  repeat' split
  all_goals simp

@[simp] theorem takeMove_powers (src : MoveSource) (a : AxisId) (t : Nat) (clamped : Bool)
    (s : State) :
    (takeMove src a t clamped s).1.powers = s.powers := by
  unfold takeMove
  dsimp only
  repeat' split
  all_goals simp

@[simp] theorem moveRequest_powers (src : MoveSource) (a : AxisId) (want : Int) (s : State) :
    (moveRequest src a want s).1.powers = s.powers := by
  unfold moveRequest
  dsimp only
  repeat' split
  all_goals simp

/-! ### Exposure.lean -/

@[simp] theorem missed_powers (p : Port) (o : Origin) (why : MissReason) (s : State) :
    (missed p o why s).powers = s.powers := by
  simp [missed]

@[simp] theorem abandonPiece_powers (p : Port) (s : State) :
    (abandonPiece p s).powers = s.powers := by
  unfold abandonPiece
  dsimp only
  repeat' split
  all_goals first | rfl | simp

@[simp] theorem delayOver_powers (p : Port) (s : State) :
    (delayOver p s).powers = s.powers := by
  unfold delayOver
  repeat' split
  all_goals simp

@[simp] theorem takeExposure_powers (p : Port) (o : Origin) (delay : Nat) (s : State) :
    (takeExposure p o delay s).powers = s.powers := by
  unfold takeExposure; split <;> simp

@[simp] theorem requestCapture_powers (p : Port) (c : Capture) (s : State) :
    (requestCapture p c s).powers = s.powers := by
  unfold requestCapture; split <;> simp

@[simp] theorem toIdle_powers (p : Port) (s : State) :
    (toIdle p s).powers = s.powers := by
  unfold toIdle
  dsimp only
  repeat' split
  all_goals simp

@[simp] theorem abandonExposure_powers (p : Port) (s : State) :
    (abandonExposure p s).powers = s.powers := by
  unfold abandonExposure
  dsimp only
  repeat' split
  all_goals simp

@[simp] theorem applyToPort_powers (line sequence : Nat) (s : State) (p : Port) :
    (applyToPort line sequence s p).powers = s.powers := by
  unfold applyToPort
  repeat' split
  all_goals simp

@[simp] theorem setLine_powers (line : Nat) (e : LineEntry) (s : State) :
    (setLine line e s).powers = s.powers := rfl

theorem foldl_powers {α : Type} (f : State → α → State) (h : ∀ s a, (f s a).powers = s.powers)
    (l : List α) (s : State) : (l.foldl f s).powers = s.powers := by
  induction l generalizing s with
  | nil => rfl
  | cons a rest ih => simp [ih, h]

@[simp] theorem takeTrigger_powers (line sequence : Nat) (s : State) :
    (takeTrigger line sequence s).powers = s.powers := by
  unfold takeTrigger
  split
  · simp
  all_goals
    rw [foldl_powers _ (applyToPort_powers line sequence)]
    simp

@[simp] theorem State.setSense_powers (s : State) (input : Fin 2) (x : SenseInput) :
    (State.setSense s input x).powers = s.powers := by
  unfold State.setSense; split <;> simp

@[simp] theorem State.sensePending_powers (s : State) (input : Fin 2) (w : SensePending) :
    (State.sensePending s input w).powers = s.powers := by
  simp [State.sensePending]

@[simp] theorem dropEdge_powers (input : Fin 2) (cause : OverrunCause) (s : State) :
    (dropEdge input cause s).powers = s.powers := by
  simp [dropEdge]

/-! ### Frames.lean -/

@[simp] theorem State.setSlot_powers (s : State) (n : Nat) (x : Slot) :
    (State.setSlot s n x).powers = s.powers := rfl

@[simp] theorem judgeStore_powers (s : State) :
    (judgeStore s).powers = s.powers := by
  unfold judgeStore
  repeat' split
  all_goals simp

@[simp] theorem freeOne_powers (n : Nat) (s : State) :
    (freeOne n s).powers = s.powers := by
  simp [freeOne]

@[simp] theorem storeFrame_powers (p : Port) (e : Exposure) (o : Origin) (f : PixelFormat)
    (w h : Nat) (s : State) : (storeFrame p e o f w h s).powers = s.powers := by
  have hm : (s.modPort p fun r =>
      { r with frameCounter := wrapInc 65536 (s.port p).frameCounter }).powers = s.powers :=
    State.modPort_powers s p _ rfl
  unfold storeFrame
  dsimp only
  split
  · rw [judgeStore_powers, State.setSlot_powers, hm]
  · rw [missed_powers, State.latch_powers, State.mk_powers, State.ports_map_power, hm]

@[simp] theorem markErrors_powers (p : Port) (s : State) :
    (markErrors p s).powers = s.powers := by
  unfold markErrors; split <;> simp

@[simp] theorem trySend_powers (s : State) :
    (trySend s).powers = s.powers := by
  unfold trySend
  repeat' split
  all_goals rfl

@[simp] theorem completeSlot_powers (p : Port) (cutShort : Bool) (res : MetricResult) (s : State) :
    (completeSlot p cutShort res s).powers = s.powers := by
  unfold completeSlot; split <;> simp

@[simp] theorem startAligning_powers (s : State) :
    (startAligning s).powers = s.powers := rfl

@[simp] theorem giveUp_powers (x : Send) (s : State) :
    (giveUp x s).powers = s.powers := by
  unfold giveUp
  dsimp only
  repeat' split
  all_goals simp

@[simp] theorem endSend_powers (x : Send) (s : State) :
    (endSend x s).powers = s.powers := by
  unfold endSend
  dsimp only
  repeat' split
  all_goals simp

/-! ### ScanRun.lean -/

@[simp] theorem abortLoader_powers (p : Port) (why : AbortDetail) (s : State) :
    (abortLoader p why s).powers = s.powers := by
  simp [abortLoader]

@[simp] theorem stopScanMove_powers (a : AxisId) (s : State) :
    (stopScanMove a s).powers = s.powers := by
  unfold stopScanMove
  dsimp only
  repeat' split
  all_goals simp

@[simp] theorem stopScanMoves_powers (p : Port) (s : State) :
    (stopScanMoves p s).powers = s.powers := by
  unfold stopScanMoves
  dsimp only
  split <;> simp

@[simp] theorem cancelScan_powers (p : Port) (why : CancelReason) (s : State) :
    (cancelScan p why s).powers = s.powers := by
  unfold cancelScan
  dsimp only
  repeat' split
  all_goals simp

@[simp] theorem settleOver_powers (p : Port) (s : State) :
    (settleOver p s).powers = s.powers := by
  simp [settleOver]

@[simp] theorem beginSettle_powers (p : Port) (s : State) :
    (beginSettle p s).powers = s.powers := by
  unfold beginSettle
  dsimp only
  repeat' split
  all_goals simp

@[simp] theorem finishScan_powers (p : Port) (s : State) :
    (finishScan p s).powers = s.powers := by
  simp [finishScan]

@[simp] theorem phaseOver_powers (p : Port) (s : State) :
    (phaseOver p s).powers = s.powers := by
  unfold phaseOver; split <;> simp

@[simp] theorem scanLanded_powers (a : AxisId) (s : State) :
    (scanLanded a s).powers = s.powers := by
  unfold scanLanded
  dsimp only
  repeat' split
  all_goals simp

@[simp] theorem requestMoves_powers (p : Port) (l : List (AxisName × Nat)) (s : State) :
    (requestMoves p l s).1.powers = s.powers := by
  induction l generalizing s with
  | nil => rfl
  | cons m rest ih =>
    obtain ⟨n, t⟩ := m
    unfold requestMoves
    dsimp only
    rw [ih]
    split <;> simp

@[simp] theorem issueMoves_powers (p : Port) (phase : RunPhase) (moves : List (AxisName × Nat))
    (s : State) :
    (issueMoves p phase moves s).powers = s.powers := by
  unfold issueMoves
  dsimp only
  repeat' split
  all_goals simp

@[simp] theorem stepMove_powers (p : Port) (s : State) :
    (stepMove p s).powers = s.powers := by
  simp [stepMove]

@[simp] theorem endAction_powers (p : Port) (s : State) :
    (endAction p s).powers = s.powers := by
  simp [endAction]

@[simp] theorem captureEnd_powers (p : Port) (c : Capture) (m : MetricResult) (s : State) :
    (captureEnd p c m s).powers = s.powers := by
  unfold captureEnd
  dsimp only
  repeat' split
  all_goals simp

@[simp] theorem beginRun_powers (p : Port) (s : State) :
    (beginRun p s).powers = s.powers := by
  unfold beginRun
  dsimp only
  repeat' split
  all_goals simp

@[simp] theorem closeFrame_powers (p : Port) (cutShort : Bool) (s : State) :
    (closeFrame p cutShort s).1.powers = s.powers := by
  simp [closeFrame]

@[simp] theorem endFrame_powers (p : Port) (cutShort : Bool) (s : State) :
    (endFrame p cutShort s).powers = s.powers := by
  unfold endFrame
  dsimp only
  repeat' split
  all_goals simp

/-! ### LinkOps.lean -/

@[simp] theorem enterTraining_powers (p : Port) (s : State) :
    (enterTraining p s).powers = s.powers := by
  simp [enterTraining]

@[simp] theorem cutFrame_powers (p : Port) (s : State) :
    (cutFrame p s).powers = s.powers := by
  unfold cutFrame; split <;> simp

@[simp] theorem loseLock_powers (p : Port) (d : Detail) (s : State) :
    (loseLock p d s).powers = s.powers := by
  simp [loseLock]

@[simp] theorem linkDark_powers (p : Port) (s : State) :
    (linkDark p s).powers = s.powers := by
  unfold linkDark
  dsimp only
  repeat' split
  all_goals simp

@[simp] theorem State.setEngine_powers (s : State) (e : Engine) :
    (State.setEngine s e).powers = s.powers := rfl

@[simp] theorem grantPiece_powers (s : State) :
    (grantPiece s).powers = s.powers := by
  unfold grantPiece
  dsimp only
  repeat' split
  all_goals simp

@[simp] theorem pieceEnd_powers (p : Port) (s : State) :
    (pieceEnd p s).powers = s.powers := by
  unfold pieceEnd
  dsimp only
  repeat' split
  all_goals simp

@[simp] theorem pieceReported_powers (p : Port) (s : State) :
    (pieceReported p s).powers = s.powers := by
  unfold pieceReported; split <;> simp

@[simp] theorem itemArrives_powers (p : Port) (s : State) :
    (itemArrives p s).powers = s.powers := by
  simp [itemArrives]

/-! ### Sweeps.lean -/

@[simp] theorem State.modLocator_powers (s : State) (f : Locator → Locator) :
    (State.modLocator s f).powers = s.powers := rfl

@[simp] theorem State.setStatus_powers (s : State) (p : Port) (k : SweepKind) (st : EntryStatus) :
    (State.setStatus s p k st).powers = s.powers := rfl

@[simp] theorem State.mergeSource_powers (s : State) (p : Port) (k : SweepKind)
    (src : SweepSource) :
    (State.mergeSource s p k src).powers = s.powers := rfl

@[simp] theorem State.addEntry_powers (s : State) (p : Port) (k : SweepKind) (src : SweepSource)
    (st : EntryStatus) :
    (State.addEntry s p k src st).powers = s.powers := rfl

@[simp] theorem linkHears_powers (p : Port) (s : State) :
    (linkHears p s).powers = s.powers := by
  unfold linkHears
  dsimp only
  repeat' split
  all_goals simp

@[simp] theorem writeResult_powers (p : Port) (r : SweepResult) (k : SweepKind) (s : State) :
    (writeResult p r k s).powers = s.powers := by
  have hm : (s.modPort p fun q => { q with sweep := r }).powers = s.powers :=
    State.modPort_powers s p _ rfl
  unfold writeResult
  dsimp only
  repeat' split
  all_goals simp [hm]

@[simp] theorem engineTake_powers (s : State) :
    (engineTake s).powers = s.powers := by
  unfold engineTake
  repeat' split
  all_goals simp

@[simp] theorem dropWork_powers (s : State) :
    (dropWork s).powers = s.powers := rfl

@[simp] theorem setSessionAside_powers (se : Session) (s : State) :
    (setSessionAside se s).powers = s.powers := by
  simp [setSessionAside]

@[simp] theorem afterPiece_powers (se : Session) (s : State) :
    (afterPiece se s).powers = s.powers := by
  unfold afterPiece; split <;> simp

@[simp] theorem cancelLive_powers (p : Port) (s : State) :
    (cancelLive p s).powers = s.powers := by
  unfold cancelLive
  dsimp only
  repeat' split
  all_goals simp

@[simp] theorem joinGathering_powers (p : Port) (s : State) :
    (joinGathering p s).powers = s.powers := rfl

@[simp] theorem leaveGathering_powers (p : Port) (s : State) :
    (leaveGathering p s).powers = s.powers := rfl

@[simp] theorem nextDark_powers (finished toCome : List Port) (s : State) :
    (nextDark finished toCome s).powers = s.powers := by
  unfold nextDark; split <;> simp

end Sys2Proof.Machine
end

