-- ==== Sys2Proof/Laws/Still.lean ====
section
/-! SUPPORT. What every operation of the hub's blocks leaves alone: the supplies, the straps, the station number, the hub time, the stored copies, the image in force and the waiting commands. -/

namespace Sys2Proof.Machine

/-- What no operation of a block changes; a start, a power loss and the end of a store operation do. -/
structure Still where
  supplied : Bool
  straps : BitVec 4
  station : Nat
  hubTime : Nat
  freeCount : Nat
  nv : Nonvolatile
  inForce : ConfigImage
  pending : List Instr

def State.still (s : State) : Still :=
  ⟨s.supplied, s.straps, s.station, s.hubTime, s.freeCount, s.nv, s.store.inForce, s.pending⟩

@[simp] theorem State.fresh_still (s : State) : (s.fresh).still = s.still := rfl

@[simp] theorem State.setPort_still (s : State) (p : Port) (r : PortRec) :
    (s.setPort p r).still = s.still := rfl

@[simp] theorem State.modPort_still (s : State) (p : Port) (f : PortRec → PortRec) :
    (s.modPort p f).still = s.still := rfl

@[simp] theorem State.modPower_still (s : State) (p : Port) (f : PowerPart → PowerPart) :
    (s.modPower p f).still = s.still := rfl

@[simp] theorem State.modLink_still (s : State) (p : Port) (f : LinkPart → LinkPart) :
    (s.modLink p f).still = s.still := rfl

@[simp] theorem State.modExposure_still (s : State) (p : Port) (f : Exposure → Exposure) :
    (s.modExposure p f).still = s.still := rfl

@[simp] theorem State.modScan_still (s : State) (p : Port) (f : Scan → Scan) :
    (s.modScan p f).still = s.still := rfl

@[simp] theorem State.modMetric_still (s : State) (p : Port) (f : Metric → Metric) :
    (s.modMetric p f).still = s.still := rfl

@[simp] theorem State.setAxis_still (s : State) (a : AxisId) (x : AxisRec) :
    (s.setAxis a x).still = s.still := rfl

@[simp] theorem State.modAxis_still (s : State) (a : AxisId) (f : AxisRec → AxisRec) :
    (s.modAxis a f).still = s.still := rfl

@[simp] theorem State.emit_still (s : State) (o : Out) : (s.emit o).still = s.still := rfl

@[simp] theorem State.joinTx_still (s : State) (b : TxBody) : (s.joinTx b).still = s.still := rfl

@[simp] theorem State.modCounters_still (s : State) (f : LineCounters → LineCounters) :
    (s.modCounters f).still = s.still := rfl

@[simp] theorem State.countReportLost_still (s : State) : (s.countReportLost).still = s.still := rfl

@[simp] theorem State.countReplyLost_still (s : State) : (s.countReplyLost).still = s.still := rfl

@[simp] theorem State.announce_still (s : State) (n : Nat) (g : Option Surge) :
    (s.announce n g).still = s.still := rfl

@[simp] theorem State.offerReport_still (s : State) (r : Report) :
    (s.offerReport r).still = s.still := by
  simp [State.still]

@[simp] theorem State.offerStanding_still (s : State) : (s.offerStanding).still = s.still := by
  simp [State.still]

@[simp] theorem State.latch_still (s : State) (e : EventName) (p : Option Port) (d : Detail) :
    (s.latch e p d).still = s.still := by simp [State.still]

@[simp] theorem State.lowering_still
    (s : State) : s.lowering.still = s.still := by simp [State.still]

@[simp] theorem State.ports_update_still (s : State) (x : Four PortRec) :
    { s with ports := x }.still = s.still := rfl

@[simp] theorem State.claims_update_still (s : State) (x : ClaimUnit) :
    { s with claims := x }.still = s.still := rfl

@[simp] theorem State.view_update_still (s : State) (x : List CellEntry) :
    { s with view := x }.still = s.still := rfl

@[simp] theorem State.lens_update_still (s : State) (x : LensHub) :
    { s with lens := x }.still = s.still := rfl

@[simp] theorem State.triggers_update_still (s : State) (x : TriggerUnit) :
    { s with triggers := x }.still = s.still := rfl

@[simp] theorem State.frames_update_still (s : State) (x : FrameStore) :
    { s with frames := x }.still = s.still := rfl

@[simp] theorem State.outLink_update_still (s : State) (x : OutLink) :
    { s with outLink := x }.still = s.still := rfl

@[simp] theorem State.locator_update_still (s : State) (x : Locator) :
    { s with locator := x }.still = s.still := rfl

@[simp] theorem State.line_update_still (s : State) (x : LineIf) :
    { s with line := x }.still = s.still := rfl

@[simp] theorem State.commands_update_still (s : State) (x : CommandUnit) :
    { s with commands := x }.still = s.still := rfl

@[simp] theorem State.events_update_still (s : State) (x : List EventEntry) :
    { s with events := x }.still = s.still := rfl

@[simp] theorem State.out_update_still (s : State) (x : List Out) :
    { s with out := x }.still = s.still := rfl

/-! ### StoreRules.lean -/

@[simp] theorem enterRecord_still (s : State) (p : Port) :
    (enterRecord s p).still = s.still := by
  unfold enterRecord
  repeat' split
  all_goals rfl

@[simp] theorem enterRecords_still (s : State) : (enterRecords s).still = s.still := by
  simp [enterRecords, allPorts]

@[simp] theorem beginOp_still (s : State) :
    (beginOp s).still = s.still := by
  unfold beginOp; split <;> rfl

@[simp] theorem runStore_still (s : State) :
    (runStore s).still = s.still := by
  simp [runStore]

@[simp] theorem setRetained_still (p : Port) (v : Bool) (s : State) :
    (setRetained p v s).still = s.still := by
  unfold setRetained; split <;> simp

/-! ### Lens.lean -/

@[simp] theorem sendExpose_still (p : Port) (s : State) :
    (sendExpose p s).still = s.still := by
  unfold sendExpose
  dsimp only
  repeat' split
  all_goals simp

@[simp] theorem issueExpose_still (p : Port) (mark : Bool) (s : State) :
    (issueExpose p mark s).still = s.still := by
  unfold issueExpose
  dsimp only
  repeat' split
  all_goals simp

@[simp] theorem axisLeft_still (p : Port) (s : State) :
    (axisLeft p s).still = s.still := by
  unfold axisLeft; split <;> simp

@[simp] theorem markMoving_still (p : Port) (s : State) :
    (markMoving p s).still = s.still := by
  unfold markMoving; split <;> simp

@[simp] theorem gate_still (a : AxisId) (s : State) :
    (gate a s).still = s.still := by
  unfold gate
  dsimp only
  repeat' split
  all_goals simp

@[simp] theorem releaseAxis_still (wait : AxisState) (a : AxisId) (s : State) :
    (releaseAxis wait a s).still = s.still := by
  unfold releaseAxis; split <;> simp

@[simp] theorem releaseWait_still (wait : AxisState) (p : Port) (s : State) :
    (releaseWait wait p s).still = s.still := by
  simp [releaseWait]

@[simp] theorem passCheck_still (a : AxisId) (r : Nat × Nat) (s : State) :
    (passCheck a r s).still = s.still := by
  simp [passCheck]

@[simp] theorem reevaluateFrom_still (l : List AxisId) (s : State) :
    (reevaluateFrom l s).still = s.still := by
  induction l generalizing s with
  | nil => rfl
  | cons a rest ih =>
    unfold reevaluateFrom
    split
    · simp [ih]
    · rfl

@[simp] theorem reevaluate_still (s : State) :
    (reevaluate s).still = s.still := by
  simp [reevaluate]

@[simp] theorem joinWaitList_still (a : AxisId) (s : State) :
    (joinWaitList a s).still = s.still := rfl

@[simp] theorem leaveWaitList_still (a : AxisId) (s : State) :
    (leaveWaitList a s).still = s.still := rfl

@[simp] theorem startMove_still (a : AxisId) (s : State) :
    (startMove a s).1.still = s.still := by
  unfold startMove
  repeat' split
  all_goals simp

@[simp] theorem landAxis_still (a : AxisId) (stopped : Bool) (s : State) :
    (landAxis a stopped s).still = s.still := by
  simp [landAxis]

@[simp] theorem land_still (a : AxisId) (stopped : Bool) (s : State) :
    (land a stopped s).still = s.still := by
  unfold land
  dsimp only
  split <;> simp

@[simp] theorem haltAxis_still (a : AxisId) (s : State) :
    (haltAxis a s).1.still = s.still := by
  unfold haltAxis
  dsimp only
  repeat' split
  all_goals simp

@[simp] theorem stopAxis_still (a : AxisId) (s : State) :
    (stopAxis a s).1.still = s.still := by
  unfold stopAxis
  dsimp only
  split <;> simp

@[simp] theorem portOffline_still (p : Port) (s : State) :
    (portOffline p s).still = s.still := by
  unfold portOffline
  dsimp only
  repeat' split
  all_goals first | rfl | (simp; done) | (simp; rfl)

@[simp] theorem loseAxis_still (a : AxisId) (following : Bool) (s : State) :
    (loseAxis a following s).still = s.still := by
  simp [loseAxis]

@[simp] theorem freezeAxis_still (a : AxisId) (s : State) :
    (freezeAxis a s).still = s.still := by
  simp [freezeAxis]

@[simp] theorem sendSetpoint_still (a : AxisId) (s : State) :
    (sendSetpoint a s).still = s.still := by
  unfold sendSetpoint; split <;> simp

@[simp] theorem endStop_still (a : AxisId) (side : EndSide) (s : State) :
    (endStop a side s).still = s.still := by
  unfold endStop
  dsimp only
  repeat' split
  all_goals simp

@[simp] theorem guardAxis_still (s : State) (a : AxisId) :
    (guardAxis s a).still = s.still := by
  unfold guardAxis
  dsimp only
  repeat' split
  all_goals simp

@[simp] theorem takeMove_still (src : MoveSource) (a : AxisId) (t : Nat) (clamped : Bool)
    (s : State) :
    (takeMove src a t clamped s).1.still = s.still := by
  unfold takeMove
  dsimp only
  repeat' split
  all_goals simp

@[simp] theorem moveRequest_still (src : MoveSource) (a : AxisId) (want : Int) (s : State) :
    (moveRequest src a want s).1.still = s.still := by
  unfold moveRequest
  dsimp only
  repeat' split
  all_goals simp

/-! ### Exposure.lean -/

@[simp] theorem missed_still (p : Port) (o : Origin) (why : MissReason) (s : State) :
    (missed p o why s).still = s.still := by
  simp [missed]

@[simp] theorem abandonPiece_still (p : Port) (s : State) :
    (abandonPiece p s).still = s.still := by
  unfold abandonPiece
  dsimp only
  repeat' split
  all_goals rfl

@[simp] theorem delayOver_still (p : Port) (s : State) :
    (delayOver p s).still = s.still := by
  unfold delayOver
  repeat' split
  all_goals simp

@[simp] theorem takeExposure_still (p : Port) (o : Origin) (delay : Nat) (s : State) :
    (takeExposure p o delay s).still = s.still := by
  unfold takeExposure; split <;> simp

@[simp] theorem requestCapture_still (p : Port) (c : Capture) (s : State) :
    (requestCapture p c s).still = s.still := by
  unfold requestCapture; split <;> simp

@[simp] theorem toIdle_still (p : Port) (s : State) :
    (toIdle p s).still = s.still := by
  unfold toIdle
  dsimp only
  repeat' split
  all_goals simp

@[simp] theorem abandonExposure_still (p : Port) (s : State) :
    (abandonExposure p s).still = s.still := by
  unfold abandonExposure
  dsimp only
  repeat' split
  all_goals simp

@[simp] theorem applyToPort_still (line sequence : Nat) (s : State) (p : Port) :
    (applyToPort line sequence s p).still = s.still := by
  unfold applyToPort
  repeat' split
  all_goals simp

@[simp] theorem setLine_still (line : Nat) (e : LineEntry) (s : State) :
    (setLine line e s).still = s.still := rfl

theorem foldl_still {α : Type} (f : State → α → State) (h : ∀ s a, (f s a).still = s.still)
    (l : List α) (s : State) : (l.foldl f s).still = s.still := by
  induction l generalizing s with
  | nil => rfl
  | cons a rest ih => simp [ih, h]

@[simp] theorem takeTrigger_still (line sequence : Nat) (s : State) :
    (takeTrigger line sequence s).still = s.still := by
  unfold takeTrigger
  split
  · simp
  all_goals
    rw [foldl_still _ (applyToPort_still line sequence)]
    simp

@[simp] theorem State.setSense_still (s : State) (input : Fin 2) (x : SenseInput) :
    (State.setSense s input x).still = s.still := by
  unfold State.setSense; split <;> simp

@[simp] theorem State.sensePending_still (s : State) (input : Fin 2) (w : SensePending) :
    (State.sensePending s input w).still = s.still := by
  simp [State.sensePending]

@[simp] theorem dropEdge_still (input : Fin 2) (cause : OverrunCause) (s : State) :
    (dropEdge input cause s).still = s.still := by
  simp [dropEdge]

/-! ### Frames.lean -/

@[simp] theorem State.setSlot_still (s : State) (n : Nat) (x : Slot) :
    (State.setSlot s n x).still = s.still := rfl

@[simp] theorem judgeStore_still (s : State) :
    (judgeStore s).still = s.still := by
  unfold judgeStore
  repeat' split
  all_goals simp

@[simp] theorem freeOne_still (n : Nat) (s : State) :
    (freeOne n s).still = s.still := by
  simp [freeOne]

@[simp] theorem storeFrame_still (p : Port) (e : Exposure) (o : Origin) (f : PixelFormat)
    (w h : Nat) (s : State) :
    (storeFrame p e o f w h s).still = s.still := by
  unfold storeFrame
  dsimp only
  repeat' split
  all_goals first | rfl | (simp; done) | (simp; rfl)

@[simp] theorem markErrors_still (p : Port) (s : State) :
    (markErrors p s).still = s.still := by
  unfold markErrors; split <;> simp

@[simp] theorem trySend_still (s : State) :
    (trySend s).still = s.still := by
  unfold trySend
  repeat' split
  all_goals rfl

@[simp] theorem completeSlot_still (p : Port) (cutShort : Bool) (res : MetricResult) (s : State) :
    (completeSlot p cutShort res s).still = s.still := by
  unfold completeSlot
  split
  · exact trySend_still _
  · rfl

@[simp] theorem startAligning_still (s : State) :
    (startAligning s).still = s.still := rfl

@[simp] theorem giveUp_still (x : Send) (s : State) :
    (giveUp x s).still = s.still := by
  unfold giveUp
  dsimp only
  repeat' split
  · exact freeOne_still _ _
  · rfl

@[simp] theorem endSend_still (x : Send) (s : State) :
    (endSend x s).still = s.still := by
  unfold endSend
  dsimp only
  repeat' split
  all_goals simp

/-! ### ScanRun.lean -/

@[simp] theorem abortLoader_still (p : Port) (why : AbortDetail) (s : State) :
    (abortLoader p why s).still = s.still := by
  simp [abortLoader]

@[simp] theorem stopScanMove_still (a : AxisId) (s : State) :
    (stopScanMove a s).still = s.still := by
  unfold stopScanMove
  dsimp only
  repeat' split
  all_goals simp

@[simp] theorem stopScanMoves_still (p : Port) (s : State) :
    (stopScanMoves p s).still = s.still := by
  unfold stopScanMoves
  dsimp only
  split <;> simp

@[simp] theorem cancelScan_still (p : Port) (why : CancelReason) (s : State) :
    (cancelScan p why s).still = s.still := by
  unfold cancelScan
  dsimp only
  repeat' split
  all_goals simp

@[simp] theorem settleOver_still (p : Port) (s : State) :
    (settleOver p s).still = s.still := by
  simp [settleOver]

@[simp] theorem beginSettle_still (p : Port) (s : State) :
    (beginSettle p s).still = s.still := by
  unfold beginSettle
  dsimp only
  repeat' split
  all_goals simp

@[simp] theorem finishScan_still (p : Port) (s : State) :
    (finishScan p s).still = s.still := by
  simp [finishScan]

@[simp] theorem phaseOver_still (p : Port) (s : State) :
    (phaseOver p s).still = s.still := by
  unfold phaseOver; split <;> simp

@[simp] theorem scanLanded_still (a : AxisId) (s : State) :
    (scanLanded a s).still = s.still := by
  unfold scanLanded
  dsimp only
  repeat' split
  all_goals simp

@[simp] theorem requestMoves_still (p : Port) (l : List (AxisName × Nat)) (s : State) :
    (requestMoves p l s).1.still = s.still := by
  induction l generalizing s with
  | nil => rfl
  | cons m rest ih =>
    obtain ⟨n, t⟩ := m
    unfold requestMoves
    dsimp only
    rw [ih]
    split <;> simp

@[simp] theorem issueMoves_still (p : Port) (phase : RunPhase) (moves : List (AxisName × Nat))
    (s : State) :
    (issueMoves p phase moves s).still = s.still := by
  unfold issueMoves
  dsimp only
  repeat' split
  all_goals simp

@[simp] theorem stepMove_still (p : Port) (s : State) :
    (stepMove p s).still = s.still := by
  simp [stepMove]

@[simp] theorem endAction_still (p : Port) (s : State) :
    (endAction p s).still = s.still := by
  simp [endAction]

@[simp] theorem captureEnd_still (p : Port) (c : Capture) (m : MetricResult) (s : State) :
    (captureEnd p c m s).still = s.still := by
  unfold captureEnd
  dsimp only
  repeat' split
  all_goals simp

@[simp] theorem beginRun_still (p : Port) (s : State) :
    (beginRun p s).still = s.still := by
  unfold beginRun
  dsimp only
  repeat' split
  all_goals simp

@[simp] theorem closeFrame_still (p : Port) (cutShort : Bool) (s : State) :
    (closeFrame p cutShort s).1.still = s.still := by
  simp [closeFrame]

@[simp] theorem endFrame_still (p : Port) (cutShort : Bool) (s : State) :
    (endFrame p cutShort s).still = s.still := by
  unfold endFrame
  dsimp only
  repeat' split
  all_goals simp

/-! ### LinkOps.lean -/

@[simp] theorem enterTraining_still (p : Port) (s : State) :
    (enterTraining p s).still = s.still := rfl

@[simp] theorem cutFrame_still (p : Port) (s : State) :
    (cutFrame p s).still = s.still := by
  unfold cutFrame; split <;> simp

@[simp] theorem loseLock_still (p : Port) (d : Detail) (s : State) :
    (loseLock p d s).still = s.still := by
  simp [loseLock]

@[simp] theorem linkDark_still (p : Port) (s : State) :
    (linkDark p s).still = s.still := by
  unfold linkDark
  dsimp only
  repeat' split
  all_goals simp

@[simp] theorem State.setEngine_still (s : State) (e : Engine) :
    (State.setEngine s e).still = s.still := rfl

@[simp] theorem grantPiece_still (s : State) :
    (grantPiece s).still = s.still := by
  unfold grantPiece
  dsimp only
  repeat' split
  all_goals simp

@[simp] theorem pieceEnd_still (p : Port) (s : State) :
    (pieceEnd p s).still = s.still := by
  unfold pieceEnd
  dsimp only
  repeat' split
  all_goals simp

@[simp] theorem pieceReported_still (p : Port) (s : State) :
    (pieceReported p s).still = s.still := by
  unfold pieceReported; split <;> simp

@[simp] theorem itemArrives_still (p : Port) (s : State) :
    (itemArrives p s).still = s.still := rfl

/-! ### Sweeps.lean -/

@[simp] theorem State.modLocator_still (s : State) (f : Locator → Locator) :
    (State.modLocator s f).still = s.still := rfl

@[simp] theorem State.setStatus_still (s : State) (p : Port) (k : SweepKind) (st : EntryStatus) :
    (State.setStatus s p k st).still = s.still := rfl

@[simp] theorem State.mergeSource_still (s : State) (p : Port) (k : SweepKind) (src : SweepSource) :
    (State.mergeSource s p k src).still = s.still := rfl

@[simp] theorem State.addEntry_still (s : State) (p : Port) (k : SweepKind) (src : SweepSource)
    (st : EntryStatus) :
    (State.addEntry s p k src st).still = s.still := rfl

@[simp] theorem linkHears_still (p : Port) (s : State) :
    (linkHears p s).still = s.still := by
  unfold linkHears
  dsimp only
  repeat' split
  all_goals simp

@[simp] theorem writeResult_still (p : Port) (r : SweepResult) (k : SweepKind) (s : State) :
    (writeResult p r k s).still = s.still := by
  unfold writeResult
  repeat' split
  all_goals simp

@[simp] theorem engineTake_still (s : State) :
    (engineTake s).still = s.still := by
  unfold engineTake
  repeat' split
  all_goals simp

@[simp] theorem dropWork_still (s : State) :
    (dropWork s).still = s.still := rfl

@[simp] theorem setSessionAside_still (se : Session) (s : State) :
    (setSessionAside se s).still = s.still := by
  simp [setSessionAside]

@[simp] theorem afterPiece_still (se : Session) (s : State) :
    (afterPiece se s).still = s.still := by
  unfold afterPiece; split <;> simp

@[simp] theorem cancelLive_still (p : Port) (s : State) :
    (cancelLive p s).still = s.still := by
  unfold cancelLive
  dsimp only
  repeat' split
  all_goals simp

@[simp] theorem joinGathering_still (p : Port) (s : State) :
    (joinGathering p s).still = s.still := rfl

@[simp] theorem leaveGathering_still (p : Port) (s : State) :
    (leaveGathering p s).still = s.still := rfl

@[simp] theorem nextDark_still (finished toCome : List Port) (s : State) :
    (nextDark finished toCome s).still = s.still := by
  unfold nextDark; split <;> simp

/-! ### PowerOps.lean -/

@[simp] theorem dropRequest_still (p : Port) (correction : Bool) (s : State) :
    (dropRequest p correction s).still = s.still := rfl

@[simp] theorem powerOff_still (p : Port) (lock : Bool) (s : State) :
    (powerOff p lock s).still = s.still := by
  simp [powerOff]

@[simp] theorem withdrawClaim_still (p : Port) (s : State) :
    (withdrawClaim p s).still = s.still := rfl

theorem makeDark_still {p : Port} {permission : Bool} {s t : State}
    (h : makeDark p permission s = some t) : t.still = s.still := by
  unfold makeDark at h
  split at h
  · simp_all
  · cases h; simp
  all_goals
    split at h
    · cases h; simp
    · cases h

@[simp] theorem requestDark_still (p : Port) (src : SweepSource) (permission : Bool) (s : State) :
    (requestDark p src permission s).1.still = s.still := by
  unfold requestDark
  repeat' split
  all_goals first | rfl | simp
  next h => exact makeDark_still h

@[simp] theorem requestLive_still (p : Port) (src : SweepSource) (s : State) :
    (requestLive p src s).1.still = s.still := by
  unfold requestLive
  repeat' split
  all_goals simp

@[simp] theorem tripPath_still (p : Port) (count : Bool) (e : EventName) (d : Detail)
    (src : SweepSource) (s : State) :
    (tripPath p count e d src s).still = s.still := by
  unfold tripPath; split <;> simp

@[simp] theorem applyDark_still (p : Port) (cls : SweepClass) (s : State) :
    (applyDark p cls s).still = s.still := by
  unfold applyDark; split <;> simp

@[simp] theorem applyLive_still (p : Port) (cls : SweepClass) (s : State) :
    (applyLive p cls s).still = s.still := by
  unfold applyLive
  repeat' split
  all_goals simp

@[simp] theorem endSession_still (se : Session) (r : SweepResult) (s : State) :
    (endSession se r s).still = s.still := by
  simp [endSession]

@[simp] theorem endDark_still (finished : List Port) (p : Port) (toCome : List Port)
    (r : SweepRec) (s : State) :
    (endDark finished p toCome r s).still = s.still := by
  simp [endDark]

/-! ### ClaimOps.lean -/

@[simp] theorem tryClaim_still (s : State) :
    (tryClaim s).still = s.still := by
  unfold tryClaim
  repeat' split
  all_goals simp

@[simp] theorem joinClaims_still (q : ClaimReq) (s : State) :
    (joinClaims q s).still = s.still := rfl

@[simp] theorem closeSwitch_still (p : Port) (s : State) :
    (closeSwitch p s).still = s.still := rfl

@[simp] theorem grantPort_still (q : ClaimReq) (s : State) :
    (grantPort q s).still = s.still := by
  unfold grantPort
  dsimp only
  repeat' split
  all_goals simp

@[simp] theorem grantClaim_still (c : ClaimInFlight) (s : State) :
    (grantClaim c s).still = s.still := by
  unfold grantClaim
  dsimp only
  rw [tryClaim_still, State.claims_update_still]
  repeat' split
  all_goals simp

@[simp] theorem shedPort_still (p : Port) (figure : Nat) (s : State) :
    (shedPort p figure s).still = s.still := by
  simp [shedPort]

@[simp] theorem objectClaim_still (c : ClaimInFlight) (s : State) :
    (objectClaim c s).still = s.still := by
  unfold objectClaim
  dsimp only
  repeat' split
  all_goals simp

@[simp] theorem settleClaim_still (flaw hold : Bool) (s : State) :
    (settleClaim flaw hold s).still = s.still := by
  unfold settleClaim
  repeat' split
  all_goals simp

@[simp] theorem takeBackClaim_still (s : State) :
    (takeBackClaim s).still = s.still := by
  unfold takeBackClaim; split <;> simp

@[simp] theorem overdraw_still (p : Port) (s : State) :
    (overdraw p s).still = s.still := by
  unfold overdraw
  dsimp only
  repeat' split
  all_goals simp

/-! ### PortCommands.lean -/

@[simp] theorem powerOnPort_still (p : Port) (s : State) :
    (powerOnPort p s).1.still = s.still := by
  unfold powerOnPort; split <;> simp

@[simp] theorem cmdPortPowerOn_still (b : Byte) (s : State) :
    (cmdPortPowerOn b s).1.still = s.still := by
  unfold cmdPortPowerOn onPort
  dsimp only
  repeat' split
  all_goals first | rfl | simp

@[simp] theorem cmdPortPowerOff_still (b : Byte) (s : State) :
    (cmdPortPowerOff b s).1.still = s.still := by
  unfold cmdPortPowerOff onPort
  dsimp only
  repeat' split
  all_goals first | rfl | simp

@[simp] theorem cmdSetLockout_still (b : Byte) (s : State) :
    (cmdSetLockout b s).1.still = s.still := by
  unfold cmdSetLockout onPort
  dsimp only
  repeat' split
  all_goals first | rfl | simp

@[simp] theorem cmdClearLockout_still (b kind : Byte) (s : State) :
    (cmdClearLockout b kind s).1.still = s.still := by
  unfold cmdClearLockout onPort
  dsimp only
  repeat' split
  all_goals first | rfl | simp

@[simp] theorem cmdPortStatus_still (b : Byte) (s : State) :
    (cmdPortStatus b s).1.still = s.still := by
  unfold cmdPortStatus onPort
  repeat' split
  all_goals simp

@[simp] theorem cmdForgetStation_still (b : Byte) (s : State) :
    (cmdForgetStation b s).1.still = s.still := by
  unfold cmdForgetStation
  repeat' split
  all_goals simp

@[simp] theorem cmdReadCellView_still (s : State) :
    (cmdReadCellView s).1.still = s.still := rfl

/-! ### LensCommands.lean -/

@[simp] theorem cmdLensMove_still (b mode : Byte) (target : BitVec 24) (s : State) :
    (cmdLensMove b mode target s).1.still = s.still := by
  unfold cmdLensMove onAxis
  dsimp only
  repeat' split
  all_goals first | rfl | simp

@[simp] theorem cmdLensStop_still (b : Byte) (s : State) :
    (cmdLensStop b s).1.still = s.still := by
  unfold cmdLensStop onAxis
  dsimp only
  repeat' split
  all_goals first | rfl | simp

@[simp] theorem cmdLensSetParam_still (b param : Byte) (value : BitVec 16) (s : State) :
    (cmdLensSetParam b param value s).1.still = s.still := by
  unfold cmdLensSetParam onAxis
  dsimp only
  repeat' split
  all_goals first | rfl | simp

@[simp] theorem cmdLensRecover_still (b : Byte) (s : State) :
    (cmdLensRecover b s).1.still = s.still := by
  unfold cmdLensRecover onAxis
  dsimp only
  repeat' split
  all_goals rfl

@[simp] theorem releaseFrozen_still (s : State) (a : AxisId) :
    (releaseFrozen s a).still = s.still := by
  unfold releaseFrozen
  dsimp only
  repeat' split
  all_goals simp

@[simp] theorem cmdFreezeRelease_still (s : State) : (cmdFreezeRelease s).1.still = s.still := by
  unfold cmdFreezeRelease
  split
  · rfl
  · dsimp only
    rw [foldl_still releaseFrozen releaseFrozen_still]

@[simp] theorem cmdAxisStatus_still (b : Byte) (s : State) :
    (cmdAxisStatus b s).1.still = s.still := by
  unfold cmdAxisStatus onAxis
  repeat' split
  all_goals simp

/-! ### ScanCommands.lean -/

@[simp] theorem beginLoad_still (p : Port) (h : Option ScanHeader) (s : State) :
    (beginLoad p h s).1.still = s.still := by
  unfold beginLoad
  repeat' split
  all_goals simp

@[simp] theorem cmdScanBegin_still (b count passes endAction store : Byte) (s : State) :
    (cmdScanBegin b count passes endAction store s).1.still = s.still := by
  unfold cmdScanBegin onPort
  repeat' split
  all_goals simp

@[simp] theorem storeStep_still (p : Port) (h : ScanHeader) (x : ScanStep) (clamped : Bool)
    (s : State) :
    (storeStep p h x clamped s).1.still = s.still := rfl

@[simp] theorem cmdScanStep_still (b index : Byte) (focus : BitVec 16) (irisPresent : Byte)
    (iris : BitVec 16) (captures settle : Byte) (s : State) :
    (cmdScanStep b index focus irisPresent iris captures settle s).1.still = s.still := by
  unfold cmdScanStep onPort
  dsimp only
  repeat' split
  all_goals first | rfl | simp

@[simp] theorem cmdScanRun_still (b : Byte) (s : State) :
    (cmdScanRun b s).1.still = s.still := by
  unfold cmdScanRun onPort
  dsimp only
  repeat' split
  all_goals first | rfl | simp

@[simp] theorem cmdScanAbortClear_still (b : Byte) (s : State) :
    (cmdScanAbortClear b s).1.still = s.still := by
  unfold cmdScanAbortClear onPort
  dsimp only
  repeat' split
  all_goals rfl

@[simp] theorem cmdScanCancel_still (b : Byte) (s : State) :
    (cmdScanCancel b s).1.still = s.still := by
  unfold cmdScanCancel onPort
  repeat' split
  all_goals simp

@[simp] theorem cmdScanResult_still (b : Byte) (s : State) :
    (cmdScanResult b s).1.still = s.still := by
  unfold cmdScanResult onPort
  repeat' split
  all_goals simp

/-! ### FrameCommands.lean -/

@[simp] theorem releaseSlot_still (n : Nat) (s : State) :
    (releaseSlot n s).1.still = s.still := by
  unfold releaseSlot
  dsimp only
  repeat' split
  all_goals simp

@[simp] theorem cmdFrameRelease_still (b : Byte) (s : State) :
    (cmdFrameRelease b s).1.still = s.still := by
  unfold cmdFrameRelease onSlot
  repeat' split
  all_goals first | rfl | simp

@[simp] theorem cmdFrameResend_still (b : Byte) (s : State) :
    (cmdFrameResend b s).1.still = s.still := by
  unfold cmdFrameResend onSlot
  dsimp only
  repeat' split
  all_goals first | rfl | exact trySend_still _

@[simp] theorem cmdFrameHeader_still (b : Byte) (s : State) :
    (cmdFrameHeader b s).1.still = s.still := by
  unfold cmdFrameHeader onSlot
  dsimp only
  repeat' split
  all_goals rfl

@[simp] theorem cmdStoreStatus_still (s : State) :
    (cmdStoreStatus s).1.still = s.still := rfl

@[simp] theorem cmdReadMissed_still (record : BitVec 16) (s : State) :
    (cmdReadMissed record s).1.still = s.still := rfl

/-! ### SweepCommands.lean -/

@[simp] theorem sweepReply_fst (p : Port) (k : SweepKind) (m : State × SweepAnswer) :
    (sweepReply p k m).1 = m.1 := by
  unfold sweepReply
  split <;> rfl

@[simp] theorem cmdSweepStart_still (b kind powerDownOk : Byte) (s : State) :
    (cmdSweepStart b kind powerDownOk s).1.still = s.still := by
  unfold cmdSweepStart onPort
  dsimp only
  repeat' split
  all_goals first | rfl | simp

@[simp] theorem cmdSweepCancel_still (b : Byte) (s : State) :
    (cmdSweepCancel b s).1.still = s.still := by
  unfold cmdSweepCancel onPort
  dsimp only
  repeat' split
  all_goals first | rfl | simp

@[simp] theorem cmdSweepResult_still (b : Byte) (s : State) :
    (cmdSweepResult b s).1.still = s.still := by
  unfold cmdSweepResult onPort
  repeat' split
  all_goals simp

/-! ### ConfigCommands.lean -/

@[simp] theorem cmdReadEvents_still (release : BitVec 32) (s : State) :
    (cmdReadEvents release s).1.still = s.still := by
  unfold cmdReadEvents; split <;> simp

@[simp] theorem cmdConfigWrite_still (item index : Byte) (value : BitVec 32) (s : State) :
    (cmdConfigWrite item index value s).1.still = s.still := by
  unfold cmdConfigWrite; split <;> rfl

@[simp] theorem cmdConfigCommit_still (s : State) :
    (cmdConfigCommit s).1.still = s.still := by
  unfold cmdConfigCommit
  dsimp only
  repeat' split
  all_goals first | rfl | (simp; done) | (simp; rfl)

end Sys2Proof.Machine
end

