-- ==== Sys2Proof/Tests/Slice0.lean ====
section
/-! SUPPORT. Tests of single commands on small states, the well-formedness smoke tests, and a witness for the hypotheses of every statement of Certificates/Slice0/Obligations.lean. Expected values are from the spec's tables and worked examples. -/

namespace Sys2Proof.Tests

set_option Elab.async false

open Sys2Proof.Machine

/-! ### Small states -/

/-- An image with some items written. -/
def image (ws : List (Nat × Nat × Nat)) : ConfigImage :=
  ws.foldl (fun m w => m.write w.1 w.2.1 (BitVec.ofNat 32 w.2.2)) defaultImage

/-- The hub after reset with an empty transmit queue and an idle line, settled, and an image in force. -/
def hub (ws : List (Nat × Nat × Nat)) : State :=
  { State.reset with
    store := { State.reset.store with inForce := image ws, working := image ws }
    line := { State.reset.line with queue := [], idle := 11 }
    claims := { State.reset.claims with settle := none } }

/-- A command of station 2 to this hub, with tag 9. -/
def head : CmdHead := ⟨2, 0, 9⟩

def after (i : Instr) (s : State) : State :=
  match exec i s with
  | .next t => t
  | .fault _ => s
  | .refused _ => s

/-- The replies that wait: status, reason and results. -/
def replies (s : State) : List (Status × Reason × List Byte) :=
  s.line.queue.filterMap fun it =>
    match it.body with
    | .reply r => some (r.status, r.reason, r.results)
    | _ => none

def statuses (s : State) : List (Status × Reason) := (replies s).map fun r => (r.1, r.2.1)

def detail (k : Nat) (s : State) : Option Detail := (s.events.getD k clearedEntry).detail

/-- Port `p` powered, in ON, with its figure, its link in a state, and reserve held. -/
def powered (p : Port) (figure : Nat) (link : LinkState) (s : State) : State :=
  ({ s with claims := { s.claims with granted := 60000, reserveHeld := true } }.modPower p fun q =>
    { q with state := .on, closed := true, figure := figure }).modLink p fun l =>
      { l with state := link }

/-- Axis `a` at rest at a position in counts. -/
def resting (a : AxisId) (counts : Nat) (s : State) : State :=
  s.modAxis a fun x =>
    { x with state := .rest, p := counts * 256, t := counts * 256
             last := some ⟨BitVec.ofNat 16 counts, false, false⟩ }

def focus2 : AxisId := ⟨2, .focus⟩

/-- Port 2 in ON and UP with both axes at rest, lens reserve 300 mA. -/
def live : State :=
  resting ⟨2, .iris⟩ 0 (resting focus2 0
    (powered 2 400 .up (hub [(16, 2, 1), (17, 2, 400), (1, 0, 300), (19, 2, 4), (20, 2, 7)])))

def claimOn (p : Port) : ClaimInFlight := ⟨⟨p, .powerOn, 0⟩, 1200, 500, false⟩

/-- The hub with its own CLAIM for port 1 in an attempt. -/
def claiming : State :=
  let s := (hub [(16, 1, 1)]).modPower 1 fun q => { q with state := .claiming, figure := 400 }
  { s with
    claims := { s.claims with inFlight := some (claimOn 1) }
    line := { s.line with tx := .attempt, queue := [⟨.claim, true⟩] } }

def exposing (p : Port) (st : ExposureState) (s : State) : State :=
  s.modExposure p fun e =>
    { e with state := st, origin := some (.line 4 41), takenAt := some 0, timer := some 5 }

/-- A scan program of two steps. -/
def program : List ScanStep := [⟨0, 10, none, 1, 20⟩, ⟨1, 11, none, 2, 20⟩]

def loaded (st : LoaderState) (s : State) : State :=
  s.modScan 2 fun x => { x with loader := st, header := some ⟨2, 1, .stay, false⟩, program := program }

def running (ph : RunPhase) (s : State) : State :=
  (loaded .running s).modScan 2 fun x =>
    { x with phase := some ph, pass := some 1, step := some 0, runNumber := 3 }

def frameOf (p : Port) : SlotRecord :=
  { port := p, origin := .line 4 41, frameNumber := 7, format := .bits8, width := 4, height := 2,
    pixels := [1, 2, 3], captureTime := 0, positions := ⟨0, 0⟩, metric := none, sendNumber := 1,
    truncated := false, linkErrors := false, lensMoving := false, scanFrame := false,
    metricPartial := false }

def slotted (st : SlotState) (s : State) : State := s.setSlot 5 ⟨st, some (frameOf 2)⟩

def sending (slot : SlotState) (s : State) : State :=
  let t := slotted slot s
  { t with outLink := { t.outLink with
      state := .up, terminated := true, ready := true, send := some ⟨5, .record, 0, false⟩ } }

def session : Session := ⟨2, newSweep, 2000000, false⟩

def engineAt (e : Engine) (s : State) : State := { s with locator := { s.locator with engine := e } }

def entry (k : SweepKind) (st : EntryStatus) : WorkEntry := ⟨2, k, [.command], 0, st⟩

def listed (k : SweepKind) (st : EntryStatus) (s : State) : State :=
  { s with locator := { s.locator with work := [entry k st] } }

def fullQueue : List TxItem :=
  List.replicate 16 ⟨.reply ⟨1, 7, 1, .done, .none, 0, 0, true, false, []⟩, false⟩

/-! ### Well-formedness: each check refuses an ill-formed command -/

theorem test_wf_sender_15 : (Instr.standingReceived 15 15 100).wf = false := by decide
theorem test_wf_command_sender_15 : (Instr.readCellView ⟨15, 0, 1⟩).wf = false := by decide
theorem test_wf_station_15_surge : (Instr.surgeExpiry 15).wf = false := by decide
theorem test_wf_station_15_stale : (Instr.entryStale 15).wf = false := by decide
theorem test_wf_other_kind_3 : (Instr.otherNoticeReceived 1 15 3).wf = false := by decide
theorem test_wf_payload_25 : (Instr.commandReceived 1 0 (List.replicate 25 0)).wf = false := by decide
theorem test_wf_broke_off_with_trailer : (Instr.receiveError (.brokeOff .silence) true).wf = false := by decide
theorem test_wf_frame_of_no_rows : (Instr.frameStart 0 .bits8 4 0).wf = false := by decide
theorem test_wf_row_too_long : (Instr.pixelData 0 0 65535 [1]).wf = false := by decide
theorem test_wf_trace_of_3_bins : (Instr.acquisitionComplete [1, 2, 3]).wf = false := by decide
theorem test_wf_calibration_of_no_traces : (Instr.calibrationComplete []).wf = false := by decide
theorem test_wf_sent_bytes : (Instr.sendPaused 8388609).wf = false := by decide
theorem test_wf_accepts : (Instr.standingReceived 14 15 100).wf = true
    ∧ (Instr.commandReceived 1 0 (List.replicate 24 0)).wf = true
    ∧ (Instr.pixelData 0 0 65534 [1]).wf = true ∧ (Instr.sendPaused 8388608).wf = true := by decide

/-! ### Reset, the queue, start -/

/-- R184: the state right after reset is what the power-on start leaves of a blank store. -/
theorem test_reset_is_a_start :
    after (.start .powerOn 0 false false false) State.reset = State.reset := by decide +kernel

theorem test_reset_queue_of_notices :
    State.reset.line.queue.map (fun it => it.body.kind) = [2, 5] := by decide

theorem test_step_takes_the_front :
    (match step { live with pending := [.readyHigh, .readyLow] } with
      | .next t => t == { live with pending := [.readyLow], outLink := { live.outLink with ready := true } }
      | .fault _ => false
      | .refused _ => false) = true := by decide +kernel

/-- R184: all four straps high read as 15, which is taken as 14. -/
theorem test_start_straps_15 :
    (after (.start .powerOn 15 false false false) State.reset).station = 14 := by decide +kernel

/-- Section 11.1: of two valid copies, the one numbered one more, mod 65,536, is the newer. -/
theorem test_start_newer_image :
    (after (.start .powerOn 0 false false false) { State.reset with nv := { blankStore with
      image := ⟨.valid ⟨65535, image [(16, 0, 1)]⟩, .valid ⟨0, image [(16, 1, 1)]⟩⟩ } }).img.enabled 1
      = true := by decide +kernel

/-- R15: SET stands where both places hold a lockout and neither is one more. -/
theorem test_start_lockout_tie_is_set :
    ((⟨.valid ⟨.clear, 5⟩, .valid ⟨.set, 9⟩⟩ : Places LockCopy).retained) = true := by decide

theorem test_power_loss_then_nothing :
    (after .settleEnd (after .powerLoss { live with store := { live.store with inFlight := none } })).claims
      = live.claims := by decide +kernel

/-! ### The line's bits -/

/-- Section 9.3: station 1's CLAIM begins with the kind 0, 0, 1 and the sender 0, 0, 0, 1. -/
theorem test_arbitration_field_of_a_claim :
    (headerBits ⟨1, 1, 15, []⟩).take 7 = [false, false, true, false, false, false, true] := by decide

/-- The generator x^16 + x^12 + x^5 + 1 from all ones over the digits 1 to 9 gives 0x29B1. -/
theorem test_crc_of_nine_digits :
    crc16 (payloadBits [0x31, 0x32, 0x33, 0x34, 0x35, 0x36, 0x37, 0x38, 0x39]) = 0x29B1 := by
  decide +kernel

/-- R158: five bits of one level are followed by a bit of the other. -/
theorem test_stuffing :
    stuffFrom false 1 [false, false, false, false, true]
      = [false, false, false, false, true, true] := by decide

/-! ### Port power and claims -/

/-- R4, R25, R26: a request goes straight to the transmit queue. -/
theorem test_port_power_on :
    let s := (hub [(16, 1, 1), (1, 0, 300)]).modPower 1 fun q => { q with figure := 400 }
    let t := after (.portPowerOn head 1) s
    (t.port 1).power.state = .claiming ∧ statuses t = [(.accepted, .none)]
      ∧ t.claims.inFlight = some ⟨⟨1, .powerOn, 0⟩, 700, 500, false⟩ := by decide +kernel

theorem test_port_power_on_not_enabled :
    statuses (after (.portPowerOn head 1) (hub [])) = [(.refused, .portDisabled)] := by decide +kernel

theorem test_port_power_off :
    let t := after (.portPowerOff head 2) live
    (t.port 2).power.closed = false ∧ t.claims.granted = 0 ∧ (t.port 2).link.state = .dark := by
  decide +kernel

theorem test_set_lockout :
    let t := after (.setLockout head 2) live
    (t.port 2).power.volatileLock = true ∧ (t.port 2).power.state = .off
      ∧ (t.port 2).power.tripCount = 0 := by decide +kernel

theorem test_clear_lockout_not_clean :
    let t := after (.clearLockout head 2 1) (live.modPower 2 fun q => { q with retainedLock := true })
    statuses t = [(.refused, .notClean)] ∧ (t.port 2).power.retainedLock = true := by decide +kernel

theorem test_clear_lockout_clean :
    let t := after (.clearLockout head 2 1)
      ((hub []).modPower 2 fun q => { q with retainedLock := true, clean := true })
    t.store.inFlight = some (.lock 2 ⟨.clear, 0⟩ false) := by decide +kernel

theorem test_port_status :
    statuses (after (.portStatus head 2) live) = List.replicate 5 (.done, .none) := by decide +kernel

theorem test_forget_own_station :
    statuses (after (.forgetStation head 0) live) = [(.refused, .badArgument)] := by decide +kernel

theorem test_forget_station :
    (after (.forgetStation head 4) { live with view := putEntry ⟨4, 9, none, 0, false⟩ live.view }).view
      = live.view := by decide +kernel

theorem test_read_cell_view :
    (after (.readCellView head) live).view = live.view := by decide +kernel

/-- Sequence of chapter 1: for a figure of 400 mA, 500 mA is no overdraw and 501 mA is. -/
theorem test_overdraw_threshold :
    ((after (.currentSample 2 500) live).port 2).power.overdraw = 0
      ∧ ((after (.currentSample 2 501) live).port 2).power.overdraw = 1 := by decide +kernel

/-- The same sequence: at the twentieth, 580 is rounded up to 600, and 200 mA more are asked for. -/
theorem test_overdraw_correction :
    let s := live.modPower 2 fun q => { q with overdraw := 19, history := [530, 580] }
    (after (.currentSample 2 540) { s with claims := { s.claims with granted := 700 } }).claims.inFlight
      = some ⟨⟨2, .correction 600, 0⟩, 900, 0, false⟩ := by decide +kernel

theorem test_inrush_end :
    let s := live.modPower 2 fun q => { q with state := .inrush, inrushLeft := some 0 }
    ((after (.inrushEnd 2 false) s).port 2).power.state = .on
      ∧ ((after (.inrushEnd 2 true) s).port 2).power.tripCount = 1 := by decide +kernel

theorem test_settle_end :
    (after .settleEnd { live with claims := { live.claims with settle := some 0 } }).claims.settle
      = none := by decide +kernel

theorem test_backoff_expiry :
    (after .backoffExpiry { live with claims := { live.claims with backoff := some 0 } }).claims.backoff
      = none := by decide +kernel

theorem test_refresh_expiry :
    let t := after .refreshExpiry live
    t.standingQueued = true ∧ t.claims.refreshLeft = 500000 := by decide +kernel

theorem test_surge_expiry :
    (after (.surgeExpiry 4) { live with view := [⟨4, 9, some ⟨500, 7⟩, 0, false⟩] }).view
      = [⟨4, 9, none, 0, false⟩] := by decide +kernel

theorem test_entry_stale :
    (after (.entryStale 4) { live with view := [⟨0, 1, none, 0, false⟩, ⟨4, 9, none, 0, false⟩] }).view
      = [⟨0, 1, none, 0, false⟩, ⟨4, 9, none, 0, true⟩] := by decide +kernel

/-! ### The cell line -/

theorem test_attempt_begin_fixes_the_standing :
    let s := { live with claims := { live.claims with granted := 700 } }
    (after .attemptBegin (s.joinTx (.standing none))).line.queue = [⟨.standing (some 700), true⟩] := by
  decide +kernel

theorem test_arbitration_lost :
    let t := after .arbitrationLost claiming
    t.line.queue = [⟨.claim, false⟩] ∧ t.line.failureRun = 0 ∧ t.line.counters.arbLosses = 1 := by
  decide +kernel

theorem test_transmit_failure :
    (after .transmitFailure claiming).line.failureRun = 1 := by decide +kernel

theorem test_mute_after_32 :
    let t := after .transmitFailure { claiming with line := { claiming.line with failureRun := 31 } }
    t.line.tx = .mute 1000000 ∧ t.claims.queue = [⟨1, .powerOn, 0⟩] := by decide +kernel

theorem test_mute_end :
    (after .muteEnd { live with line := { live.line with tx := .mute 0 } }).standingQueued = true := by
  decide +kernel

theorem test_claim_granted :
    let t := after (.attemptEnd true false false) claiming
    (t.port 1).power.closed = true ∧ (t.port 1).power.inrushLeft = some 50000
      ∧ t.claims.reserveHeld = true := by decide +kernel

/-- R28: the backoff is 100 ms for station 0. -/
theorem test_claim_objected :
    let t := after (.attemptEnd true false true) claiming
    (t.port 1).power.state = .claiming ∧ t.claims.backoff = some 100000
      ∧ t.claims.queue = [⟨1, .powerOn, 1⟩] := by decide +kernel

/-- Sequence of chapter 5: after 253, sequence 0 is two on from 254 and leaves a gap of one. -/
theorem test_trigger_gap :
    let s := { live with triggers := { live.triggers with
      lines := live.triggers.lines.set 9 ⟨254, true, 0, 0⟩ } }
    let t := after (.triggerReceived 1 15 9 0) s
    t.triggers.lines.getD 9 startLine = ⟨0, true, 0, 0⟩ ∧ detail 9 t = some (.gap 9 1 false) := by
  decide +kernel

/-- The same sequence: the third stale notice in a row is accepted as the first. -/
theorem test_trigger_resync :
    let s := { live with triggers := { live.triggers with
      lines := live.triggers.lines.set 9 ⟨90, true, 2, 1⟩ } }
    let t := after (.triggerReceived 1 15 9 7) s
    t.triggers.lines.getD 9 startLine = ⟨7, true, 0, 2⟩ ∧ detail 9 t = some (.gap 9 0 true) := by
  decide +kernel

/-- R35: with a budget of 500 mA a claim of 501 mA is objected to, and one of 500 mA is not. -/
theorem test_claim_judged :
    (after (.claimReceived 4 15 401 100 100 false false) (hub [])).out = [.trailer true false true]
      ∧ (after (.claimReceived 4 15 400 100 100 false false) (hub [])).out
        = [.trailer true false false] := by decide +kernel

theorem test_claim_recorded :
    (after (.claimReceived 4 15 400 100 100 false false) (hub [])).view
      = [⟨0, 0, none, 0, false⟩, ⟨4, 400, some ⟨100, 100000⟩, 0, false⟩] := by decide +kernel

theorem test_standing_over_budget :
    let t := after (.standingReceived 4 15 501) (hub [])
    detail 4 t = some (.total 501) ∧ t.ports = (hub []).ports := by decide +kernel

/-- 12.2: code 06 with one argument byte is FORGET_STATION. -/
theorem test_command_received :
    (after (.commandReceived 2 0 [0x06, 9, 4])
        { live with view := putEntry ⟨4, 9, none, 0, false⟩ live.view }).view = live.view := by
  decide +kernel

theorem test_command_unknown_code :
    statuses (after (.commandReceived 2 0 [0x20, 9]) live) = [(.refused, .badArgument)] := by
  decide +kernel

theorem test_undefined_kind :
    (after (.otherNoticeReceived 4 15 7) live).line.counters.undefinedKinds = 1 := by decide +kernel

theorem test_receive_error :
    let t := after (.receiveError .crc true) live
    t.out = [.trailer false true false] ∧ t.line.counters.rxErrors = 1 := by decide +kernel

/-! ### Links and frames -/

theorem test_lock_report :
    let s := powered 2 400 .training (hub [])
    ((after (.lockReport 2 true) s).port 2).link.state = .up := by decide +kernel

theorem test_stream_lost :
    let t := after (.streamLost 2) live
    (t.port 2).link.state = .training ∧ (t.port 2).focus.state = .offline
      ∧ (t.port 2).power.closed = true := by decide +kernel

theorem test_resume_check :
    let s := live.modLink 2 fun l => { l with resumeLeft := some 0 }
    ((after (.resumeCheckExpiry 2) s).port 2).link.state = .training := by decide +kernel

theorem test_training_timeout :
    let t := after (.trainingTimeout 2) (powered 2 400 .training (hub []))
    (t.port 2).link.state = .down ∧ detail 8 t = some (.timeouts 1) := by decide +kernel

/-- R50: with ERR_HIGH at 16, the third window in a row of more than 16 errors. -/
theorem test_third_bad_window :
    let s := live.modLink 2 fun l => { l with windowCount := 17, highRun := 2 }
    ((after (.errorWindowEnd 2) s).port 2).link.state = .degraded
      ∧ ((after (.errorWindowEnd 2) (s.modLink 2 fun l => { l with windowCount := 16 })).port 2).link.state
        = .up := by decide +kernel

theorem test_code_error :
    ((after (.codeError 2) live).port 2).link.windowCount = 1 := by decide +kernel

theorem test_frame_start :
    let t := after (.frameStart 2 .bits8 4 2) (exposing 2 .exposing live)
    (t.slot 0).state = .filling ∧ (t.port 2).exposure.state = .receiving
      ∧ (t.port 2).frameCounter = 1 := by decide +kernel

theorem test_unasked_frame :
    ((after (.frameStart 2 .bits8 4 2) live).port 2).link.unasked = 1 := by decide +kernel

/-- The worked example of chapter 7: rows of 100 and 140 over 2 rows of 3 differences give 640. -/
theorem test_metric_of_a_small_roi :
    let m := startMetric.frameStart (some ⟨10, 13, 200, 201⟩) .bits12 14 1024 false
    let m := m.rowData 200 10 [1000, 1040, 980, 980]
    (m.rowData 201 10 [500, 500, 600, 560]).close false = ⟨some 640, false⟩
      ∧ (m.rowData 201 10 [500, 500]).close true = ⟨some 533, true⟩ := by decide +kernel

theorem test_pixel_data_fills_the_slot :
    let s := (slotted .filling (exposing 2 .receiving live)).modLink 2 fun l => { l with gate := .opened }
    ((after (.pixelData 2 0 0 [7, 8]) s).slot 5).record.map (fun r => r.pixels)
      = some [1, 2, 3, 7, 8] := by decide +kernel

theorem test_frame_end :
    let s := (slotted .filling (exposing 2 .receiving live)).modLink 2 fun l => { l with gate := .opened }
    let t := after (.frameEnd 2 2) s
    t.frames.outQueue = [5] ∧ (t.port 2).exposure.state = .idle := by decide +kernel

theorem test_position_report :
    let s := live.modAxis focus2 fun x => { x with state := .offline, last := none }
    let t := after (.positionReport 2 ⟨12, false, false⟩ ⟨0, false, false⟩) s
    (t.axis focus2).state = .rest ∧ (t.axis focus2).p = 12 * 256 := by decide +kernel

theorem test_abandon_stop :
    let s := (exposing 2 .delaying live).modLink 2 fun l =>
      { l with time := .abandoning, heldExpose := true }
    (after (.abandonStop 2) s).out = [.quietRelease 2, .exposeCommand 2] := by decide +kernel

/-! ### Lens -/

/-- The axis of the worked example of section 4.7: VSTART 0, VSTOP 64, VBREAK 0, AMAX = DMAX = 256. -/
def ramp (p v t : Nat) (dir : EndSide) : AxisRec :=
  let x := startAxis defaultImage focus2
  { x with
    state := .moving, p := p, v := v, t := t, dir := dir, vmaxe := some 1024
    params := { x.params with
      vmax := 1024, vstart := 0, vstop := 64, vbreak := 0, astart := 0, amax := 256, dmax := 256
      dfinal := 0 } }

def stepOf (x : AxisRec) : Nat × Nat × Bool := (x.moveStep.1.v, x.moveStep.1.p, x.moveStep.2)

/-- Updates 1, 5, 6 and 8 of the worked example "a full ramp". -/
theorem test_ramp :
    stepOf (ramp 0 0 5120 .far) = (256, 256, false)
      ∧ stepOf (ramp 2560 1024 5120 .far) = (1024, 3584, false)
      ∧ stepOf (ramp 3584 1024 5120 .far) = (768, 4352, false)
      ∧ (ramp 4864 512 5120 .far).moveStep.1.p = 5120
      ∧ (ramp 4864 512 5120 .far).moveStep.2 = true := by decide +kernel

/-- Updates 6, 9, 10 and 15 of the worked example "a retarget that reverses". -/
theorem test_ramp_reverses :
    stepOf (ramp 3584 1024 2560 .far) = (768, 4352, false)
      ∧ stepOf (ramp 5120 256 2560 .far) = (0, 5120, false)
      ∧ stepOf (ramp 5120 0 2560 .far) = (256, 4864, false)
      ∧ (ramp 2816 256 2560 .near).moveStep.1.p = 2560 := by decide +kernel

theorem test_lens_move :
    let t := after (.lensMove head 4 0 20) live
    (t.axis focus2).state = .moving ∧ (t.axis focus2).t = 5120 ∧ statuses t = [(.accepted, .none)] := by
  decide +kernel

theorem test_lens_move_offline :
    statuses (after (.lensMove head 2 0 20) live) = [(.refused, .axis .offline)] := by decide +kernel

theorem test_lens_stop :
    let s := live.setAxis focus2 (ramp 2560 1024 5120 .far)
    ((after (.lensStop head 4) s).axis focus2).state = .stopping := by decide +kernel

/-- 12.2: parameter 2 is VMAX; 15 is unknown. -/
theorem test_lens_set_param :
    ((after (.lensSetParam head 4 2 300) live).axis focus2).params.vmax = 300
      ∧ statuses (after (.lensSetParam head 4 15 300) live) = [(.refused, .badArgument)] := by
  decide +kernel

theorem test_lens_recover :
    let s := live.modAxis focus2 fun x =>
      { x with state := .lost, bad := 3, last := some ⟨40, false, false⟩ }
    let x := (after (.lensRecover head 4) s).axis focus2
    x.state = .rest ∧ x.p = 40 * 256 ∧ x.bad = 0 := by decide +kernel

theorem test_lens_update :
    let t := after (.lensUpdate focus2) (live.setAxis focus2 (ramp 0 0 5120 .far))
    (t.axis focus2).p = 256 ∧ t.out = [.setpoint focus2 1] := by decide +kernel

theorem test_hold_expiry :
    let s := live.modAxis focus2 fun x =>
      { x with state := .holding, hold := some 0, allowance := 30 }
    ((after (.holdExpiry focus2) s).axis focus2).state = .rest
      ∧ ((after (.holdExpiry focus2) s).axis focus2).allowance = 0 := by decide +kernel

theorem test_guard_activated :
    let t := after .guardActivated (live.setAxis focus2 (ramp 2560 1024 5120 .far))
    (t.axis focus2).stopKind = some .guard ∧ (t.axis ⟨2, .iris⟩).state = .rest := by decide +kernel

theorem test_guard_released :
    (after .guardReleased { live with lens := { live.lens with guardActive := true } }).lens.guardActive
      = false := by decide +kernel

theorem test_freeze_release :
    let s := live.modAxis focus2 fun x => { x with state := .frozen }
    let t := after (.freezeRelease head) s
    (t.axis focus2).state = .rest ∧ (replies t) = [(.done, .none, [1])] := by decide +kernel

theorem test_axis_status :
    (after (.axisStatus head 4) live).ports = live.ports := by decide +kernel

/-! ### Triggers, exposures, scans -/

theorem test_sense_edge :
    (after (.senseEdge 1) (hub [(13, 1, 4)])).line.queue = [⟨.trigger 1 4 none, false⟩] := by
  decide +kernel

theorem test_delay_end :
    let t := after (.delayEnd 2) (exposing 2 .delaying live)
    (t.port 2).exposure.state = .exposing ∧ t.out = [.exposeCommand 2] := by decide +kernel

theorem test_defer_expiry :
    ((after (.deferExpiry 2) (exposing 2 .deferred live)).port 2).exposure.movingMark = true := by
  decide +kernel

theorem test_expose_timeout :
    let t := after (.exposeTimeout 2) (exposing 2 .exposing live)
    (t.port 2).exposure.timeouts = 1 ∧ t.triggers.missed.map (fun m => m.reason) = [.noFrame] := by
  decide +kernel

theorem test_scan_settle_end :
    let t := after (.scanSettleEnd 2) (running .settle live)
    (t.port 2).scan.counter = 1 ∧ (t.port 2).exposure.origin = some (.scan ⟨3, 0, 1, false⟩) := by
  decide +kernel

theorem test_scan_begin :
    let t := after (.scanBegin head 2 2 1 0 0) live
    (t.port 2).scan.loader = .loading ∧ (t.port 2).scan.expected = some 0 := by decide +kernel

theorem test_scan_step_out_of_order :
    let s := live.modScan 2 fun x =>
      { x with loader := .loading, header := some ⟨2, 1, .stay, false⟩, expected := some 0 }
    let t := after (.scanStep head 2 1 10 0 0 1 20) s
    (t.port 2).scan.loader = .aborted ∧ detail 21 t = some (.scanAborted (.outOfOrder 0 1)) := by
  decide +kernel

theorem test_scan_run :
    let t := after (.scanRun head 2) (loaded .loaded live)
    (t.port 2).scan.loader = .running ∧ (t.axis focus2).t = 2560 := by decide +kernel

theorem test_scan_abort_clear :
    ((after (.scanAbortClear head 2) (loaded .aborted live)).port 2).scan.loader = .empty := by
  decide +kernel

theorem test_scan_cancel :
    ((after (.scanCancel head 2) (running .settle live)).port 2).scan.result.reason
      = some .command := by decide +kernel

theorem test_scan_result :
    (replies (after (.scanResult head 2) live)).length = 2 := by decide +kernel

/-! ### Frame store and frame out link -/

theorem test_frame_release :
    ((after (.frameRelease head 5) (slotted .sent live)).slot 5).state = .free
      ∧ ((after (.frameRelease head 5) (sending .sending live)).slot 5).state = .releasePending := by
  decide +kernel

theorem test_frame_resend :
    (after (.frameResend head 5) (slotted .sent live)).frames.outQueue = [5] := by decide +kernel

theorem test_frame_header_of_a_free_slot :
    statuses (after (.frameHeader head 5) live) = [(.refused, .slotFree)] := by decide +kernel

theorem test_store_status :
    (after (.storeStatus head) live).frames = live.frames := by decide +kernel

theorem test_read_missed :
    (after (.readMissed head 0) live).triggers = live.triggers := by decide +kernel

theorem test_termination_present :
    (after .terminationPresent live).outLink.alignLeft = some 100 := by decide +kernel

theorem test_termination_lost :
    let t := after .terminationLost (sending .sending live)
    (t.slot 5).state = .ready ∧ t.frames.outQueue = [5] ∧ t.outLink.givenUp = 1 := by decide +kernel

theorem test_align_end :
    (after .alignEnd { live with outLink := { live.outLink with state := .aligning } }).outLink.state
      = .up := by decide +kernel

theorem test_ready_pins :
    (after .readyLow (sending .sending live)).outLink.send = some ⟨5, .record, 0, false⟩
      ∧ (after .readyHigh live).outLink.ready = true := by decide +kernel

theorem test_send_paused :
    let s := sending .sending live
    (after (.sendPaused 2) { s with outLink := { s.outLink with ready := false } }).outLink.send
      = some ⟨5, .pixels, 2, true⟩ := by decide +kernel

theorem test_send_end :
    ((after .sendEnd (sending .sending live)).slot 5).state = .sent
      ∧ ((after .sendEnd (sending .releasePending live)).slot 5).state = .free := by decide +kernel

/-! ### Cable fault locator -/

/-- The worked example of section 8.6: F = 2,228, Z = 644 and vf 660 make 2,448 mm. -/
theorem test_distance : distanceOf 2228 644 660 = 2448 := by decide +kernel

theorem test_distance_crossing :
    Crossing.position 300 ⟨140, 100, 900⟩ = 2228 := by decide +kernel

/-- The same example: 2,448 mm with rho 950 on a cable of 10,000 mm is OPEN. -/
theorem test_class_open : (classOf .dark 10000 2448 950).1 = .opened := by decide +kernel

theorem test_sweep_start_dark :
    let t := after (.sweepStart head 1 1 0) live
    t.locator.gathering = some ⟨[1], 250000⟩ := by decide +kernel

theorem test_sweep_start_needs_permission :
    statuses (after (.sweepStart head 2 1 0) live) = [(.refused, .portPowered)] := by decide +kernel

theorem test_sweep_cancel_running :
    statuses (after (.sweepCancel head 2) (listed .dark .formed live)) = [(.refused, .sweepRunning)] := by
  decide +kernel

theorem test_sweep_result :
    (after (.sweepResult head 2) live).locator = live.locator := by decide +kernel

theorem test_acquisition_complete :
    let s := engineAt (.piece session 0 true) (listed .live .running
      (live.modLink 2 fun l => { l with time := .piece }))
    (after (.acquisitionComplete [5, 6]) s).locator.engine
      = .piece { session with sweep := ⟨[5, 6], 1, some [5, 6], 0, 1⟩ } 1 true := by decide +kernel

theorem test_calibration_complete :
    (after (.calibrationComplete []) (engineAt (.calibratingBatch [1, 3]) live)).locator.engine
      = .darkRun [] 1 [3] newSweep := by decide +kernel

theorem test_gathering_window_expiry :
    let s := { live with locator := { live.locator with gathering := some ⟨[3, 1], 0⟩ } }
    (after .gatheringWindowExpiry s).locator.engine = .calibratingBatch [1, 3] := by decide +kernel

theorem test_deadline_expiry :
    ((after .deadlineExpiry (engineAt (.waitingGap session) (listed .live .running live))).port 2).sweep.cls
      = .incomplete := by decide +kernel

/-! ### Events and configuration -/

/-- R178: with the default keep mask only what it names stays latched. -/
theorem test_read_events :
    let s := (hub [(11, 0, 0)]).latch .cellOver none (.total 501)
    ((after (.readEvents head 0) s).events.getD 4 clearedEntry).latched = false := by decide +kernel

theorem test_config_write :
    let t := after (.configWrite head 2 0 7000) live
    t.store.working.item 2 0 = 7000 ∧ t.img.cellBudget = 500 := by decide +kernel

theorem test_config_commit :
    (after (.configCommit head) (hub [])).store.inFlight
      = some (.image ⟨0, (hub []).store.working⟩ false) := by decide +kernel

theorem test_store_write_end :
    let s := { hub [] with store := { (hub []).store with inFlight := some (.lock 1 ⟨.set, 4⟩ true) } }
    (after (.storeWriteEnd true) s).nv.locks.get 1 = ⟨.blank, .valid ⟨.set, 4⟩⟩
      ∧ (after (.storeWriteEnd false) s).nv.locks.get 1 = ⟨.blank, .torn⟩ := by decide +kernel

theorem test_restart_waits_for_its_reply :
    let t := after (.restart head) live
    t.commands.unit = .restarting ∧ (t.port 2).power.closed = true := by decide +kernel

theorem test_decode_spells_no_command : decodeTableWord 32 0x06 = none := rfl

/-! ### Witnesses: states that meet the hypotheses of each statement, clause by clause, at the ends of the ranges -/

def unsupplied : State := { live with supplied := false }

/-- A reply of RESTART that waits for nothing more. -/
def restartReply : Reply := ⟨2, 9, 0x1F, .done, .none, 0, 0, true, false, []⟩

def withUnit (u : UnitState) (n : Nat) (s : State) : State :=
  { s with commands := { s.commands with unit := u, buffer := List.replicate n ⟨head, .readCellView⟩ } }

def withQueue (q : List TxItem) (s : State) : State := { s with line := { s.line with queue := q } }

def inMute (s : State) : State := { s with line := { s.line with tx := .mute 5 } }

def aReport : TxItem := ⟨.report ⟨.started, none, .nothing, 0, 1⟩, false⟩

def inAttempt (b : TxBody) (s : State) : State :=
  { s with line := { s.line with tx := .attempt, queue := [⟨b, true⟩] } }

theorem wit_IdleStepIsOneMicrosecond : State.reset.pending = [] ∧ State.reset.supplied = true := by
  decide

theorem wit_OnlyAStartChangesTheSetting :
    exec .readyLow live = .next (after .readyLow live) ∧ Instr.readyLow.mayStart = false
      ∧ live.restartWaits = false ∧ (∀ ok, Instr.readyLow ≠ .storeWriteEnd ok)
      ∧ Instr.readyLow ≠ .powerLoss := ⟨rfl, by decide, by decide, by decide, by decide⟩

theorem wit_UnsuppliedHubDoesNothing : unsupplied.supplied = false
    ∧ (∀ straps g r t, Instr.start .restart 0 false false false ≠ .start .powerOn straps g r t) := by
  decide

theorem wit_StartSetsTheHub :
    (StartCause.powerOn = .powerOn ∨ unsupplied.supplied = true) ∧ unsupplied.store.inFlight = none
      ∧ (StartCause.restart = .powerOn ∨ live.supplied = true) ∧ live.store.inFlight = none := by
  decide

theorem wit_PowerLossCutsTheStore : live.supplied = true := by decide

theorem wit_CommandIsIgnoredOrWaits :
    (Instr.readCellView ⟨2, 14, 9⟩).cmd? = some (⟨2, 14, 9⟩, .readCellView)
      ∧ (14 : BitVec 4).toNat ≠ live.station ∧ (14 : BitVec 4) ≠ 15
      ∧ (let s := withUnit .replying 3 live
        s.supplied = true ∧ addressed ⟨2, 15, 9⟩ s = true ∧ s.commands.unit ≠ .ready
          ∧ s.commands.buffer.length < 4) := by decide

theorem wit_CommandOverflowIsAnswered :
    (Instr.readCellView head).cmd? = some (head, .readCellView)
      ∧ (let s := withUnit .replying 4 (withQueue (List.replicate 15 aReport) live)
        s.supplied = true ∧ addressed head s = true ∧ s.commands.buffer.length = 4
          ∧ s.muted = false ∧ s.line.queue.length < 16)
      ∧ (let s := inMute (withUnit .replying 4 live)
        s.supplied = true ∧ addressed head s = true ∧ s.commands.buffer.length = 4 ∧ s.muted = true)
      ∧ (let s := withUnit .replying 4 (withQueue (List.replicate 16 aReport) live)
        s.supplied = true ∧ addressed head s = true ∧ s.commands.buffer.length = 4
          ∧ s.muted = false ∧ 16 ≤ s.line.queue.length
          ∧ dropYoungestReport s.line.queue = some (List.replicate 15 aReport))
      ∧ (let s := withUnit .replying 4 (withQueue fullQueue live)
        s.supplied = true ∧ addressed head s = true ∧ s.commands.buffer.length = 4
          ∧ s.muted = false ∧ 16 ≤ s.line.queue.length ∧ dropYoungestReport s.line.queue = none
          ∧ s.line.held = none)
      ∧ (let t := withUnit .replying 4 (withQueue fullQueue live)
        let s := { t with line := { t.line with held := some .part } }
        s.supplied = true ∧ addressed head s = true ∧ s.commands.buffer.length = 4
          ∧ s.muted = false ∧ 16 ≤ s.line.queue.length ∧ dropYoungestReport s.line.queue = none
          ∧ s.line.held ≠ none) := by decide +kernel

theorem wit_CommandIsTakenAtOnce :
    (Instr.readCellView head).cmd? = some (head, .readCellView) ∧ Cmd.readCellView ≠ .restart
      ∧ live.takes head = true := by decide

theorem wit_WireCommandIsTheRow :
    live.supplied = true ∧ (live.line.idle = 11 ∨ live.line.receiving = true)
      ∧ (∀ code args, Cmd.readCellView ≠ .malformed code args)
      ∧ (∀ c : Cmd, c.code = 0x20 → c.args = [] → c = .malformed 0x20 [])
      ∧ (∀ c : Cmd, c.code = 0x07 → c.args = [1] → c = .malformed 0x07 [1])
      ∧ live.takes head = true :=
  ⟨by decide, by decide, fun _ _ h => (nomatch h),
    fun c hc ha => by cases c <;> simp_all [Cmd.code, Cmd.args],
    fun c hc ha => by cases c <;> simp_all [Cmd.code, Cmd.args], by decide⟩

theorem wit_ArgumentOutOfRangeIsRefused :
    live.takes head = true ∧ 4 ≤ (4 : Byte).toNat ∧ 8 ≤ (8 : Byte).toNat ∧ 32 ≤ (32 : Byte).toNat
      ∧ 15 ≤ (15 : Byte).toNat := by decide

theorem wit_StatusCommandsChangeNothing :
    live.takes head = true ∧ portArg 3 = some 3 ∧ axisArg 7 = some ⟨3, .iris⟩
      ∧ slotArg 31 = some 31 ∧ (live.slot 31).record = none
      ∧ (let s := slotted .sent live
        s.takes head = true ∧ slotArg 5 = some 5 ∧ (s.slot 5).record = some (frameOf 2)
          ∧ (s.slot 5).state ≠ .free) := by decide +kernel

theorem wit_ReplyJoinsAFreeQueue :
    live.muted = false ∧ live.line.queue.length
      + (replyParts head 0x05 (done (List.replicate 288 0)) (summaryFlags live)).length ≤ 16 := by
  decide +kernel

theorem wit_RestartStartsAfterItsReply :
    (let s := withQueue (List.replicate 15 aReport) live
     s.takes head = true ∧ s.muted = false ∧ s.line.queue.length < 16)
    ∧ ((inMute live).takes head = true ∧ (inMute live).muted = true)
    ∧ (let t := withQueue fullQueue live
      let s := { t with line := { t.line with held := some .part } }
      s.takes head = true ∧ s.muted = false ∧ 16 ≤ s.line.queue.length
        ∧ dropYoungestReport s.line.queue = none ∧ s.line.held ≠ none)
    ∧ (let s := inAttempt (.reply restartReply) (withUnit .restarting 0 live)
      s.supplied = true ∧ s.line.tx = .attempt ∧ s.sendingItem = some ⟨.reply restartReply, true⟩
        ∧ isRestartReply restartReply = true ∧ s.commands.unit = .restarting
        ∧ s.store.inFlight = none) := by decide +kernel

theorem wit_FigureIsAMultipleOfFifty :
    50 ≤ (image [(17, 0, 50)]).item 17 0 ∧ (image [(17, 3, 1500)]).item 17 3 ≤ 1500 := by
  decide +kernel

theorem wit_PortPowerCommandsByState :
    live.takes head = true ∧ portArg 2 = some 2 ∧ (hub []).img.enabled 0 = false
      ∧ (let s := (hub [(16, 2, 1)]).modPower 2 fun q => { q with retainedLock := true }
        s.takes head = true ∧ s.img.enabled 2 = true
          ∧ ((s.port 2).power.volatileLock || (s.port 2).power.retainedLock) = true)
      ∧ (let s := listed .dark .formed (hub [(16, 2, 1)])
        s.takes head = true ∧ s.img.enabled 2 = true
          ∧ ((s.port 2).power.volatileLock || (s.port 2).power.retainedLock) = false
          ∧ s.entry? 2 .dark ≠ none)
      ∧ (let s := hub [(16, 2, 1)]
        s.takes head = true ∧ s.img.enabled 2 = true
          ∧ ((s.port 2).power.volatileLock || (s.port 2).power.retainedLock) = false
          ∧ s.entry? 2 .dark = none ∧ (s.port 2).power.state = .off)
      ∧ (let s := (hub [(16, 2, 1)]).modPower 2 fun q => { q with state := .claiming }
        s.takes head = true ∧ s.img.enabled 2 = true
          ∧ ((s.port 2).power.volatileLock || (s.port 2).power.retainedLock) = false
          ∧ s.entry? 2 .dark = none ∧ (s.port 2).power.state = .claiming)
      ∧ (live.img.enabled 2 = true
          ∧ ((live.port 2).power.volatileLock || (live.port 2).power.retainedLock) = false
          ∧ live.entry? 2 .dark = none ∧ (live.port 2).power.state.powered = true) := by
  decide +kernel

theorem wit_ClaimAsksForTheWholeStanding :
    let q : ClaimReq := ⟨2, .powerOn, 7⟩
    let s : State := withQueue (List.replicate 15 aReport)
      { hub [] with claims := { (hub []).claims with queue := [q] } }
    s.claims.queue = q :: [] ∧ s.claims.inFlight = none ∧ s.claims.backoff = none
      ∧ s.claims.settle = none ∧ s.muted = false ∧ s.line.queue.length < 16
      ∧ (s.port 2).power.state = .off := by decide +kernel

/-- The port of the head still stands in the state that its request was made for. -/
theorem wit_ClaimAsksForTheWholeStanding_stands :
    (let q : ClaimReq := ⟨2, .powerOn, 0⟩
     let s : State := (hub []).modPower 2 fun w => { w with state := .claiming }
     let s := { s with claims := { s.claims with queue := [q] } }
     s.claims.queue = q :: [] ∧ s.claims.inFlight = none ∧ s.claims.backoff = none
      ∧ s.claims.settle = none ∧ s.muted = false ∧ s.line.queue.length < 16
      ∧ (s.port 2).power.state = .claiming)
    ∧ (let s : State := { live with claims := { live.claims with queue := [⟨2, .correction 600, 0⟩] } }
      s.claims.queue = ⟨2, .correction 600, 0⟩ :: [] ∧ s.claims.inFlight = none
        ∧ s.claims.backoff = none ∧ s.claims.settle = none ∧ s.muted = false
        ∧ s.line.queue.length < 16 ∧ (s.port 2).power.state = .on) := by decide +kernel

theorem wit_PowerOffOpensTheSwitch :
    ((live.port 2).axis .focus).state ≠ .offline ∧ (3 : Port) ≠ 2 := by decide +kernel

theorem wit_SetLockoutByState :
    live.takes head = true ∧ portArg 2 = some 2 ∧ (live.port 2).power.state.powered = true
      ∧ (hub []).takes head = true ∧ portArg 0 = some 0 ∧ ((hub []).port 0).power.state = .off
      ∧ (let s := (hub []).modPower 3 fun q => { q with state := .claiming }
        s.takes head = true ∧ portArg 3 = some 3 ∧ (s.port 3).power.state = .claiming) := by
  decide +kernel

theorem wit_ClearLockoutByKind :
    live.takes head = true ∧ portArg 2 = some 2 ∧ (live.port 2).power.retainedLock = false
      ∧ (let s := (hub []).modPower 0 fun q => { q with retainedLock := true, clean := true }
        s.takes head = true ∧ portArg 0 = some 0 ∧ (s.port 0).power.retainedLock = true
          ∧ (s.port 0).power.clean = true)
      ∧ (let s := (hub []).modPower 3 fun q => { q with retainedLock := true }
        s.takes head = true ∧ portArg 3 = some 3 ∧ (s.port 3).power.retainedLock = true
          ∧ (s.port 3).power.clean = false) := by decide +kernel

theorem wit_ForgetStationRemovesTheEntry :
    live.takes head = true ∧ (14 : Byte).toNat < 15 ∧ (14 : Byte).toNat ≠ live.station
      ∧ (0 : Byte).toNat < 15 ∧ (0 : Byte).toNat = live.station := by decide

theorem wit_SampleIsRecordedAndSupervised :
    live.supplied = true ∧ (live.port 1).power.state ≠ .on ∧ (live.port 2).power.state = .on
      ∧ (19 : BitVec 16).toNat < 20 ∧ (live.port 2).power.undercurrent < 99
      ∧ (20 ≤ (501 : BitVec 16).toNat ∧ (501 : BitVec 16).toNat < 2000
          ∧ (live.port 2).power.figure * 5 < (501 : BitVec 16).toNat * 4
          ∧ (live.port 2).power.overdraw < 19)
      ∧ (20 ≤ (500 : BitVec 16).toNat ∧ (500 : BitVec 16).toNat < 2000
          ∧ (500 : BitVec 16).toNat * 4 ≤ (live.port 2).power.figure * 5)
      ∧ (live.port 2).power.history.length ≤ 20 ∧ (live.port 2).power.state.powered = true := by
  decide +kernel

theorem wit_TripTakesThePortDown :
    live.supplied = true ∧ live.bounded = true ∧ (live.port 2).power.state = .on
      ∧ 2000 ≤ (2000 : BitVec 16).toNat
      ∧ (let s := live.modPower 2 fun q => { q with undercurrent := 99 }
        s.bounded = true ∧ (s.port 2).power.state = .on ∧ (19 : BitVec 16).toNat < 20
          ∧ 99 ≤ (s.port 2).power.undercurrent) := by decide +kernel

theorem wit_InrushEndsInOnOrATrip :
    let s := live.modPower 2 fun q => { q with state := .inrush, inrushLeft := some 0 }
    s.supplied = true ∧ s.bounded = true ∧ (s.port 2).power.state = .inrush
      ∧ (s.port 1).power.state ≠ .inrush := by decide +kernel

theorem wit_GrantClosesTheSwitch :
    claiming.supplied = true ∧ claiming.line.tx = .attempt
      ∧ claiming.sendingItem = some ⟨.claim, true⟩
      ∧ claiming.claims.inFlight = some (claimOn 1) ∧ (claimOn 1).req.kind = .powerOn
      ∧ (claiming.port (claimOn 1).req.port).power.state = .claiming
      ∧ claiming.commands.buffer = [] := by decide +kernel

/-- A CORRECTION of port 2 in its attempt. -/
def correcting : State :=
  let c : ClaimInFlight := ⟨⟨2, .correction 600, 0⟩, 900, 0, false⟩
  inAttempt .claim { live with claims := { live.claims with inFlight := some c } }

theorem wit_ObjectionBacksOff :
    (claiming.supplied = true ∧ claiming.bounded = true ∧ claiming.line.tx = .attempt
      ∧ claiming.sendingItem = some ⟨.claim, true⟩ ∧ claiming.claims.inFlight = some (claimOn 1)
      ∧ (true || false) = true ∧ claiming.commands.buffer = []
      ∧ (claimOn 1).req.kind = .powerOn ∧ (claiming.port 1).power.state = .claiming
      ∧ (claimOn 1).req.attempts < 7)
    ∧ (let c : ClaimInFlight := ⟨⟨1, .powerOn, 7⟩, 1200, 500, false⟩
      let s := { claiming with claims := { claiming.claims with inFlight := some c } }
      s.bounded = true ∧ s.sendingItem = some ⟨.claim, true⟩ ∧ s.claims.inFlight = some c
        ∧ c.req.kind = .powerOn ∧ (s.port 1).power.state = .claiming ∧ 7 ≤ c.req.attempts)
    ∧ (correcting.bounded = true ∧ correcting.line.tx = .attempt
      ∧ correcting.sendingItem = some ⟨.claim, true⟩
      ∧ correcting.claims.inFlight = some ⟨⟨2, .correction 600, 0⟩, 900, 0, false⟩
      ∧ correcting.commands.buffer = [] ∧ (correcting.port 2).power.state = .on) := by
  decide +kernel

theorem wit_OnlyAGrantClosesASwitch :
    exec (.attemptEnd true false false) claiming = .next (after (.attemptEnd true false false) claiming)
      ∧ (claiming.port 1).power.closed = false
      ∧ ((after (.attemptEnd true false false) claiming).port 1).power.closed = true :=
  ⟨rfl, by decide +kernel, by decide +kernel⟩

theorem wit_CellTimersRunOut :
    live.supplied = true ∧ (inMute live).muted = true
      ∧ (live.joinTx (.standing none)).standingQueued = true
      ∧ (let s := withQueue (List.replicate 14 aReport) live
        s.muted = false ∧ s.standingQueued = false ∧ s.line.queue.length < 15) := by decide +kernel

theorem wit_CommandCodesParse : ∀ code args, Cmd.restart ≠ .malformed code args :=
  fun _ _ h => nomatch h

theorem wit_LineBitsReadBack :
    (⟨5, 14, 15, List.replicate 24 0xFF⟩ : WireNotice).sendable = true := by decide

def standingSent : State := inAttempt (.standing (some 700)) live

theorem wit_AttemptsGoOnTheLine :
    (let s := live.joinTx (.trigger 1 4 none)
     s.supplied = true ∧ s.line.tx = .ready ∧ s.line.queue = ⟨.trigger 1 4 none, false⟩ :: []
      ∧ s.line.idle = 11)
    ∧ (State.reset.supplied = true ∧ State.reset.line.idle ≠ 11)
    ∧ (let s := { claiming with line := { claiming.line with failureRun := 30 } }
      s.line.tx = .attempt ∧ s.sendingItem = some ⟨.claim, true⟩
        ∧ spareStanding s ⟨.claim, true⟩ = false ∧ s.line.failureRun < 31)
    ∧ (standingSent.line.tx = .attempt
      ∧ standingSent.sendingItem = some ⟨.standing (some 700), true⟩
      ∧ standingSent.commands.buffer = []) := by decide +kernel

theorem wit_MuteEmptiesTheQueue :
    (let s := { claiming with line := { claiming.line with
      failureRun := 31
      queue := [⟨.trigger 0 4 none, false⟩, ⟨.claim, true⟩, ⟨.standing none, false⟩] } }
     s.supplied = true ∧ s.line.tx = .attempt ∧ s.sendingItem = some ⟨.claim, true⟩
      ∧ spareStanding s ⟨.claim, true⟩ = false ∧ 31 ≤ s.line.failureRun
      ∧ s.commands.unit ≠ .restarting ∧ s.commands.buffer = []
      ∧ s.claims.inFlight = some (claimOn 1) ∧ ⟨.claim, true⟩ ∈ s.line.queue
      ∧ ⟨.trigger 0 4 none, false⟩ ∈ s.line.queue ∧ ⟨.standing none, false⟩ ∈ s.line.queue)
    ∧ ((inMute live).line.tx = .mute 5 ∧ (inMute live).line.queue = []) := by decide +kernel

theorem wit_PeerNoticesAreJudged :
    live.supplied = true ∧ (live.line.idle = 11 ∨ live.line.receiving = true)
      ∧ (State.reset.supplied = true ∧ State.reset.line.idle ≠ 11
          ∧ State.reset.line.receiving = false)
      ∧ (0 : BitVec 4).toNat = live.station ∧ (14 : BitVec 4).toNat ≠ live.station
      ∧ (let s := hub []
        let total := viewTotal s.hubTime (s.view.filter fun e => e.station != 14) + 501
        s.img.cellBudget < total ∧ ¬ s.img.cellBudget < total - 1)
      ∧ (5 : BitVec 3).toNat < 6 ∧ 6 ≤ (6 : BitVec 3).toNat := by decide +kernel

theorem wit_PeerStandingIsRecorded :
    ((hub []).supplied = true ∧ (hub []).line.idle = 11) ∧ (14 : BitVec 4).toNat ≠ (hub []).station
      ∧ (hub []).img.cellBudget < viewTotal 0 (after (.standingReceived 14 15 501) (hub [])).view
      ∧ viewTotal 0 (after (.standingReceived 14 15 500) (hub [])).view ≤ (hub []).img.cellBudget
      ∧ ∀ how, RxError.crc ≠ .brokeOff how :=
  ⟨by decide, by decide, by decide +kernel, by decide +kernel, fun _ h => nomatch h⟩

/-- Line 4 has last seen a number, with a stale run. -/
def lineSeen (last staleRun : Nat) (s : State) : State :=
  { s with triggers := { s.triggers with
      lines := s.triggers.lines.set 4 ⟨last, true, staleRun, staleRun⟩ } }

theorem wit_TriggersReachTheirPorts :
    live.supplied = true ∧ live.bounded = true ∧ (live.line.idle = 11 ∨ live.line.receiving = true)
      ∧ (live.triggers.lines.getD 4 startLine).valid = false
      ∧ (0x14 : Byte).toNat % 16 < live.triggers.lines.length
      ∧ (let e := (lineSeen 9 2 live).triggers.lines.getD 4 startLine
        e.valid = true ∧ ((9 : Byte).toNat + 256 - e.last) % 256 = 0
          ∧ ((10 : Byte).toNat + 256 - e.last) % 256 = 1
          ∧ 2 ≤ ((11 : Byte).toNat + 256 - e.last) % 256
          ∧ ((136 : Byte).toNat + 256 - e.last) % 256 < 128
          ∧ 128 ≤ ((137 : Byte).toNat + 256 - e.last) % 256 ∧ 2 ≤ e.staleRun)
      ∧ ((lineSeen 9 1 live).triggers.lines.getD 4 startLine).staleRun < 2
      ∧ (live.img.subscribed 2).map Fin.val = some 4 ∧ (live.img.subscribed 1).map Fin.val ≠ some 4
      ∧ live.img.triggerDelay 2 ≠ 0
      ∧ (live.img.senseLine 0 = none ∧ (hub [(13, 1, 15)]).img.senseLine 1 = some 15)
      ∧ (let s := (hub [(13, 1, 15)]).setSense 1 ⟨.sending, 0⟩
        (s.sense 1).pending ≠ .absent)
      ∧ ((inMute (hub [(13, 1, 15)])).sense 1).pending = .absent
      ∧ (inMute (hub [(13, 1, 15)])).muted = true
      ∧ (let s := withQueue fullQueue (hub [(13, 1, 15)])
        (s.sense 1).pending = .absent ∧ s.muted = false ∧ 16 ≤ s.line.queue.length)
      ∧ (let s := withQueue (List.replicate 15 aReport) (hub [(13, 1, 15)])
        (s.sense 1).pending = .absent ∧ s.muted = false ∧ s.line.queue.length < 16) := by
  decide +kernel

/-- Port 2 under policy WAIT with an axis in motion. -/
def movingUnder (policy deferMs : Nat) (st : ExposureState) : State :=
  exposing 2 st ((resting ⟨2, .iris⟩ 0 (powered 2 400 .up
    (hub [(16, 2, 1), (19, 2, 4), (21, 2, policy), (22, 2, deferMs)]))).setAxis focus2
      (ramp 2560 1024 5120 .far))

theorem wit_ExposureTimersRunOut :
    (let s := movingUnder 0 1 .delaying
     let e := (s.port 2).exposure
     s.supplied = true ∧ e.state = .delaying ∧ e.timer.isSome = true
      ∧ (s.port 2).link.time ≠ .abandoning ∧ s.img.policyWait 2 = false)
    ∧ (let s := movingUnder 1 0 .delaying
      (s.port 2).exposure.state = .delaying ∧ s.img.policyWait 2 = true
        ∧ s.poweredMoving 2 = true ∧ s.img.deferLimit 2 = 0)
    ∧ (let s := movingUnder 1 1 .delaying
      (s.port 2).exposure.state = .delaying ∧ s.img.policyWait 2 = true
        ∧ s.poweredMoving 2 = true ∧ s.img.deferLimit 2 ≠ 0)
    ∧ (let s := (movingUnder 0 1 .delaying).modLink 2 fun l => { l with time := .abandoning }
      (s.port 2).exposure.state = .delaying ∧ (s.port 2).exposure.timer.isSome = true
        ∧ (s.port 2).link.time = .abandoning ∧ s.img.policyWait 2 = false)
    ∧ (let s := movingUnder 1 1 .deferred
      (s.port 2).exposure.state = .deferred ∧ (s.port 2).link.time ≠ .abandoning)
    ∧ (let s := exposing 2 .exposing live
      (s.port 2).exposure.state = .exposing ∧ (s.port 2).exposure.origin = some (.line 4 41)
        ∧ (s.port 2).exposure.held = none ∧ s.bounded = true)
    ∧ (let s := running .settle live
      let x := (s.port 2).scan
      x.loader = .running ∧ x.phase = some .settle ∧ x.header = some ⟨2, 1, .stay, false⟩
        ∧ (s.port 2).exposure.state = .idle)
    ∧ (let s := exposing 2 .exposing (running .settle live)
      (s.port 2).scan.phase = some .settle ∧ (s.port 2).exposure.state ≠ .idle) := by decide +kernel

theorem wit_ExposureTimeoutOfAnEarlierRun :
    ∀ c, Origin.line 4 41 = .scan c → c.run ≠ (live.port 2).scan.runNumber := fun _ h => nomatch h

theorem wit_LockIsFoundAndLost :
    (let s := powered 2 400 .training (hub [])
     s.supplied = true ∧ s.bounded = true ∧ (s.port 2).link.state = .training
      ∧ (s.port 2).link.time = .free ∧ (s.port 2).power.state = .on)
    ∧ (let s := running .settle (live.modLink 2 fun l => { l with resumeLeft := some 1 })
      s.bounded = true ∧ ((s.port 2).link.state = .up ∨ (s.port 2).link.state = .degraded)
        ∧ (s.port 2).link.time = .free ∧ (s.port 2).link.resumeLeft ≠ none
        ∧ (s.port 2).scan.loader = .running) := by decide +kernel

/-- Port 2 with a count in its error window and two runs. -/
def windowed (st : LinkState) (count high clean : Nat) : State :=
  live.modLink 2 fun l =>
    { l with state := st, windowCount := count, highRun := high, cleanRun := clean }

theorem wit_ErrorWindowsAreJudged :
    live.supplied = true ∧ live.bounded = true
      ∧ (let s := windowed .up 17 1 0
        (s.port 2).link.state = .up ∧ s.img.errHigh < (s.port 2).link.windowCount
          ∧ (s.port 2).link.highRun < 2)
      ∧ (windowed .up 16 2 0).bounded = true ∧ 16 ≤ (windowed .up 16 2 0).img.errHigh
      ∧ (let s := windowed .up 17 2 0
        s.bounded = true ∧ s.img.errHigh < (s.port 2).link.windowCount
          ∧ 2 ≤ (s.port 2).link.highRun ∧ (s.port 2).power.state = .on)
      ∧ (let s := windowed .degraded 2 0 8
        (s.port 2).link.state = .degraded ∧ (s.port 2).link.windowCount ≤ s.img.errLow
          ∧ (s.port 2).link.cleanRun < 9)
      ∧ (windowed .degraded 3 0 8).img.errLow < 3
      ∧ (let s := windowed .degraded 2 0 9
        s.bounded = true ∧ (s.port 2).link.windowCount ≤ s.img.errLow
          ∧ 9 ≤ (s.port 2).link.cleanRun)
      ∧ (live.port 2).link.time = .free ∧ (live.port 2).link.gate ≠ .opened
      ∧ (let s := (slotted .filling live).modLink 2 fun l => { l with gate := .opened }
        (s.port 2).link.gate = .opened ∧ s.fillingSlot 2 = some (5, frameOf 2)) := by decide +kernel

/-- A frame of port 2 that is being received, into slot 5. -/
def receiving : State :=
  (slotted .filling (exposing 2 .receiving live)).modLink 2 fun l => { l with gate := .opened }

def fullStore : State :=
  let s := exposing 2 .exposing live
  { s with frames := { s.frames with slots := List.replicate 32 ⟨.sent, some (frameOf 1)⟩ } }

def scanExposing : State :=
  live.modExposure 2 fun e => { e with state := .exposing, origin := some (.scan ⟨3, 0, 1, false⟩) }

theorem wit_FramesAreReceived :
    live.supplied = true ∧ laneOpen live 2 = true ∧ (live.port 2).link.gate ≠ .opened
      ∧ (live.port 2).exposure.state ≠ .exposing ∧ (live.port 2).link.gate = .none
      ∧ (let s := exposing 2 .exposing live
        laneOpen s 2 = true ∧ (s.port 2).link.gate ≠ .opened ∧ (s.port 2).exposure.state = .exposing
          ∧ (s.port 2).exposure.origin = some (.line 4 41) ∧ (Origin.line 4 41).kept = true
          ∧ s.lowestFree = some 0)
      ∧ (laneOpen fullStore 2 = true ∧ (fullStore.port 2).exposure.state = .exposing
          ∧ fullStore.lowestFree = none)
      ∧ (laneOpen scanExposing 2 = true ∧ (scanExposing.port 2).exposure.state = .exposing
          ∧ (Origin.scan ⟨3, 0, 1, false⟩).kept = false)
      ∧ (laneOpen receiving 2 = true ∧ (receiving.port 2).link.gate = .opened
          ∧ receiving.fillingSlot 2 = some (5, frameOf 2)
          ∧ (receiving.port 2).exposure.origin = some (.line 4 41)
          ∧ (receiving.port 2).exposure.held = none)
      ∧ (receiving.setSlot 5 freeSlot).fillingSlot 2 = none
      ∧ (let s := live.modLink 2 fun l => { l with gate := .discarding }
        laneOpen s 2 = true ∧ (s.port 2).link.gate = .discarding) := by decide +kernel

/-- Focus of port 2 with its counters and its last report. -/
def reported (f : AxisRec → AxisRec) : State := live.modAxis focus2 f

theorem wit_PositionReportsAreChecked :
    live.supplied = true ∧ laneOpen live 2 = true ∧ (live.port 2).scan.loader ≠ .running
      ∧ focus2 ∉ live.lens.waitList
      ∧ (let x := (reported fun x => { x with state := .offline }).axis focus2
        x.state = .offline ∧ x.staged = false)
      ∧ ((reported fun x => { x with state := .lost }).axis focus2).state = .lost
      ∧ ((reported fun x => { x with state := .frozen }).axis focus2).state = .frozen
      ∧ (let x := (reported fun x => { x with bad := 1 }).axis focus2
        x.state ≠ .offline ∧ x.state ≠ .lost ∧ x.state ≠ .frozen
          ∧ x.last = some ⟨0, false, false⟩ ∧ ¬ x.params.varLimit + 1 ≤ x.params.varLimit ∧ x.bad < 2)
      ∧ 2 ≤ ((reported fun x => { x with bad := 2 }).axis focus2).bad
      ∧ 4 ≤ ((reported fun x => { x with follow := 4, p := 256000 }).axis focus2).follow
      ∧ (live.axis focus2).state ≠ .stoppedEnd
      ∧ (let s := live.setAxis focus2 (ramp 2560 1024 5120 .far)
        let x := s.axis focus2
        laneOpen s 2 = true ∧ x.state.poweredMoving = true ∧ 0 < x.v ∧ x.dir = .far
          ∧ x.stopKind ≠ some .guard ∧ x.last = none) := by decide +kernel

/-- Not credible, and credible but not followed: both make the conditions of the counts. -/
theorem wit_PositionReportsNotCredible :
    let x := (reported fun x => { x with bad := 2 }).axis focus2
    ¬ (∀ l, x.last = some l → max 60000 l.pos.toNat - min 60000 l.pos.toNat ≤ x.params.varLimit) := by
  intro x h
  exact absurd (h ⟨0, false, false⟩ rfl) (by decide +kernel)

theorem wit_PositionReportsNotFollowed :
    let x := (reported fun x => { x with follow := 4, p := 256000, last := none }).axis focus2
    (∀ l, x.last = some l → max 0 l.pos.toNat - min 0 l.pos.toNat ≤ x.params.varLimit)
      ∧ ¬ (max 0 (x.p / 256) - min 0 (x.p / 256) ≤ x.params.followTol) :=
  ⟨fun _ h => (nomatch h), by decide +kernel⟩

theorem wit_LensCommandsAct :
    live.takes head = true ∧ axisArg 4 = some focus2 ∧ (live.port 2).scan.loader ≠ .running
      ∧ live.lens.guardActive = false ∧ (live.axis focus2).state = .rest
      ∧ ((running .settle live).takes head = true
          ∧ ((running .settle live).port 2).scan.loader = .running)
      ∧ ((hub []).axis focus2).state = .offline
      ∧ (let x := live.axis focus2
        let t := clampTo x.params.lo x.params.hi 20
        t * 256 ≠ x.p ∧ live.lens.waitList = [] ∧ 0 < x.params.moveMA ∧ 0 < live.reserveAmount
          ∧ x.params.moveMA ≤ live.reserveAmount - (live.allowances - x.allowance)
          ∧ x.params.vstart ≤ x.params.vmax ∧ x.params.vstop ≤ x.params.vmax
          ∧ (live.port 2).link.time = .free ∧ live.img.policyWait 2 = false)
      ∧ (({ live with lens := { live.lens with waitList := [⟨2, .iris⟩] } }).lens.waitList ≠ [])
      ∧ ((live.modLink 2 fun l => { l with time := .abandoning }).port 2).link.time ≠ .free
      ∧ (let s := live.setAxis focus2 (ramp 2560 1024 5120 .far)
        s.takes head = true ∧ (s.axis focus2).state = .moving ∧ 0 < (s.axis focus2).v)
      ∧ (14 : Byte).toNat < 15
      ∧ (let s := reported fun x => { x with state := .lost }
        s.takes head = true ∧ (s.axis focus2).state = .lost ∧ (s.axis focus2).staged = false
          ∧ (s.axis focus2).last = some ⟨0, false, false⟩ ∧ (s.axis focus2).state ≠ .holding) := by
  decide +kernel

theorem wit_MovesStayWithinTheLimits :
    let x := ramp 3584 1024 5120 .far
    (x.params.lo * 256 ≤ x.p ∧ x.p ≤ x.params.hi * 256) ∧ x.params.lo * 256 ≤ x.t
      ∧ x.t ≤ x.params.hi * 256 ∧ x.v ≤ x.limit ∧ x.params.vstop ≤ x.limit
      ∧ (ramp 4864 512 5120 .far).moveStep.2 = true := by decide +kernel

theorem wit_LensUpdatesMoveTheAxis :
    (let s := live.setAxis focus2 (ramp 3584 1024 5120 .far)
     let x := s.axis focus2
     s.supplied = true ∧ s.bounded = true ∧ s.lens.waitList = [] ∧ x.state = .moving
      ∧ x.moveStep.2 = false ∧ (s.port 2).link.state.passes = true)
    ∧ (let s := live.setAxis focus2 (ramp 4864 512 5120 .far)
      let x := s.axis focus2
      s.bounded = true ∧ x.state = .moving ∧ x.moveStep.2 = true ∧ x.source = .command
        ∧ x.staged = false ∧ 0 < x.params.holdTime)
    ∧ (let x := { ramp 3584 1024 5120 .far with state := .stopping, stopKind := some .command }
      x.stopKind ≠ some .guard ∧ x.params.vstop ≤ x.v - x.params.decel x.v
        ∧ 0 < (x.stopStep (x.params.decel x.v)).v)
    ∧ (let x := { ramp 3584 256 5120 .far with state := .stopping, stopKind := some .command }
      x.v - x.params.decel x.v < x.params.vstop ∧ x.staged = false ∧ 0 < x.params.holdTime)
    ∧ (let x := (reported fun x => { x with state := .holding, hold := some 0 }).axis focus2
      x.state = .holding ∧ x.hold ≠ none ∧ x.staged = false) := by decide +kernel

theorem wit_GuardStopsEveryAxis :
    (let s := (running .settle live).setAxis focus2 (ramp 3584 1024 5120 .far)
     s.supplied = true ∧ (∀ a ∈ s.lens.waitList, (s.axis a).state = .waitPower)
      ∧ (s.port 2).scan.loader = .running ∧ (s.axis focus2).state = .moving ∧ 0 < (s.axis focus2).v
      ∧ 0 < s.img.dfreeze ∧ (s.axis ⟨2, .iris⟩).state.poweredMoving = false
      ∧ (s.axis ⟨2, .iris⟩).state.waiting = false)
    ∧ (let s := { reported fun x => { x with state := .waitPower } with
        lens := { live.lens with waitList := [focus2] } }
      (∀ a ∈ s.lens.waitList, (s.axis a).state = .waitPower)
        ∧ (s.axis focus2).state.waiting = true)
    ∧ (hub [(5, 0, 0)]).img.dfreeze = 0
    ∧ (let s := { live with lens := { live.lens with guardActive := true } }
      s.takes head = true ∧ s.lens.guardActive = true)
    ∧ (let s := reported fun x => { x with state := .frozen, sinceFreeze := true }
      s.takes head = true ∧ s.lens.guardActive = false ∧ (s.axis focus2).state = .frozen
        ∧ (s.axis focus2).staged = false ∧ (s.axis focus2).last = some ⟨0, false, false⟩)
    ∧ ((reported fun x => { x with state := .frozen }).axis focus2).sinceFreeze = false := by
  decide +kernel

/-- Port 2's loader after SCAN_BEGIN of two steps, waiting for the step of an index. -/
def loading (expected : Nat) : State :=
  live.modScan 2 fun x =>
    { x with loader := .loading, header := some ⟨2, 1, .stay, false⟩, expected := some expected }

theorem wit_ScanCommandsAct :
    live.takes head = true ∧ portArg 2 = some 2 ∧ endActionArg 2 = some .best ∧ yesNoArg 1 = some true
      ∧ (live.port 2).scan.loader = .empty
      ∧ (2 ≤ (16 : Byte).toNat ∧ (16 : Byte).toNat ≤ 16 ∧ 1 ≤ (4 : Byte).toNat ∧ (4 : Byte).toNat ≤ 4)
      ∧ ¬ (17 : Byte).toNat ≤ 16
      ∧ ((loading 0).takes head = true ∧ ((loading 0).port 2).scan.loader = .loading
          ∧ ((loading 0).port 2).scan.header = some ⟨2, 1, .stay, false⟩
          ∧ ((loading 0).port 2).scan.expected = some (0 : Byte).toNat
          ∧ ((loading 1).port 2).scan.expected = some (1 : Byte).toNat ∧ (0 : Byte).toNat ≠ 1)
      ∧ ((loaded .aborted live).port 2).scan.loader = .aborted
      ∧ ((running .settle live).takes head = true
          ∧ ((running .settle live).port 2).scan.loader = .running)
      ∧ (let s := loaded .loaded live
        s.takes head = true ∧ (s.port 2).scan.loader = .loaded
          ∧ (s.port 2).scan.header = some ⟨2, 1, .stay, false⟩ ∧ (s.port 2).link.state = .up
          ∧ s.lens.guardActive = false ∧ (s.port 2).focus.state = .rest
          ∧ (s.port 2).iris.state = .rest) := by decide +kernel

theorem wit_SlotsAreReleasedAndResent :
    (slotted .ready live).takes head = true ∧ slotArg 5 = some 5 ∧ slotArg 31 = some 31
      ∧ ((slotted .ready live).slot 5).state = .ready ∧ ((slotted .sent live).slot 5).state = .sent
      ∧ ((sending .sending live).slot 5).state = .sending
      ∧ ((sending .releasePending live).slot 5).state = .releasePending
      ∧ (receiving.slot 5).state = .filling ∧ (live.slot 31).state = .free
      ∧ ((slotted .sent live).slot 5).record = some (frameOf 2) ∧ live.outLink.state ≠ .up
      ∧ (let t := slotted .sent live
        let s := { t with outLink := { t.outLink with state := .up, ready := true } }
        s.takes head = true ∧ s.outLink.state = .up ∧ s.outLink.ready = true ∧ s.outLink.send = none
          ∧ s.frames.outQueue = []) := by decide +kernel

/-- Slot 5 stands first in the outbound queue, and the link aligns. -/
def aligning : State :=
  let s := slotted .ready live
  { s with
    frames := { s.frames with outQueue := [5] }
    outLink := { s.outLink with state := .aligning, ready := true } }

def pausedSend : State :=
  let s := sending .sending live
  { s with outLink := { s.outLink with ready := false, send := some ⟨5, .pixels, 2, true⟩ } }

theorem wit_TheFrameOutLinkRuns :
    live.supplied = true ∧ live.outLink.state = .absent ∧ live.outLink.send = none
      ∧ (sending .sending live).outLink.send = some ⟨5, .record, 0, false⟩
      ∧ ((sending .sending live).slot 5).state = .sending
      ∧ ((sending .releasePending live).slot 5).state = .releasePending
      ∧ (aligning.outLink.state = .aligning ∧ aligning.outLink.ready = true
          ∧ aligning.outLink.send = none ∧ aligning.frames.outQueue = 5 :: []
          ∧ aligning.slot 5 = ⟨.ready, some (frameOf 2)⟩)
      ∧ (let s := { live with outLink := { live.outLink with state := .aligning } }
        s.outLink.state = .aligning ∧ s.frames.outQueue = [])
      ∧ (pausedSend.outLink.send = some ⟨5, .pixels, 2, true⟩ ∧ pausedSend.outLink.ready = false)
      ∧ (let s := sending .sending live
        s.slot 5 = ⟨.sending, some (frameOf 2)⟩ ∧ s.img.autoRelease 2 = false
          ∧ s.frames.outQueue = [])
      ∧ (let s := sending .releasePending live
        (s.slot 5).record = some (frameOf 2) ∧ s.frames.outQueue = [])
      ∧ (hub [(25, 2, 1)]).img.autoRelease 2 = true := by decide +kernel

theorem wit_SweepCommandsAct :
    live.takes head = true ∧ portArg 2 = some 2 ∧ live.entry? 2 .dark = none
      ∧ live.entry? 2 .live = none ∧ (live.port 2).power.state = .on
      ∧ (live.port 2).power.state.powered = true
      ∧ ((hub []).takes head = true ∧ portArg 0 = some 0 ∧ (hub []).entry? 0 .dark = none
          ∧ (hub []).entry? 0 .live = none ∧ ((hub []).port 0).power.state = .off)
      ∧ (listed .dark .gathering live).entry? 2 .dark ≠ none
      ∧ live.locator.work.find? (fun e => e.port == 2) = none
      ∧ (listed .dark .formed live).locator.work.find? (fun e => e.port == 2)
          = some (entry .dark .formed)
      ∧ (let s := listed .dark .gathering live
        s.locator.work.find? (fun e => e.port == 2) = some (entry .dark .gathering))
      ∧ (let s := listed .live .waiting live
        s.locator.work.find? (fun e => e.port == 2) = some (entry .live .waiting)) := by
  decide +kernel

theorem wit_AcquisitionsAreJudged :
    (∀ l, newSweep.last = some l → ∀ k (hk : k < l.length) (hk' : k < [5#12].length),
        |(l[k]).toInt - ([5#12][k]).toInt| ≤ (256 : Int))
      ∧ newSweep.sums = []
      ∧ ¬ (∀ l, some [0#12] = some l → ∀ k (hk : k < l.length) (hk' : k < [1000#12].length),
        |(l[k]).toInt - ([1000#12][k]).toInt| ≤ (256 : Int))
      ∧ ([7] : List Int).length = [5#12].length :=
  ⟨fun _ h => (nomatch h), rfl,
    fun h => absurd (h [0#12] rfl 0 (by decide) (by decide)) (by decide), rfl⟩

theorem wit_TheLocatorRuns :
    (let s := { live with locator := { live.locator with gathering := some ⟨[3, 1], 0⟩ } }
     s.supplied = true ∧ s.locator.gathering = some ⟨[3, 1], 0⟩ ∧ s.locator.formed = []
      ∧ s.locator.engine = .idle)
    ∧ (let s := engineAt (.darkRun [] 0 [] newSweep)
        { live with locator := { live.locator with gathering := some ⟨[3, 1], 0⟩ } }
      s.locator.gathering = some ⟨[3, 1], 0⟩
        ∧ s.locator.engine = .darkRun [] 0 [] newSweep)
    ∧ (engineAt (.calibratingBatch [1, 3]) live).locator.engine = .calibratingBatch (1 :: [3])
    ∧ (let s := engineAt (.calibratingSession session) (exposing 2 .exposing live)
      s.locator.engine = .calibratingSession session ∧ session.due = false
        ∧ (s.port session.port).exposure.state ≠ .idle)
    ∧ (let r : SweepRec := { newSweep with completed := 62, n := 1, last := some [5], sums := [5] }
      r.completed < 63 ∧ (judgeTrace live.img.disturbLimit { r with rejections := 2 } [900]).rejections < 4)
    ∧ (let s := engineAt (.piece session 3 true) (live.modLink 2 fun l => { l with time := .piece })
      let sw := judgeTrace s.img.disturbLimit session.sweep [5]
      s.locator.engine = .piece session 3 true ∧ sw.n < 16 ∧ sw.rejections < 4
        ∧ (s.port 2).link.time = .piece ∧ quietPort (s.port 2) = true)
    ∧ ((engineAt (.waitingGap session) live).locator.engine = .waitingGap session
      ∧ session.sweep.n < 4)
    ∧ (let s := (exposing 2 .delaying live).modLink 2 fun l =>
        { l with time := .abandoning, heldExpose := true }
      (s.port 2).link.time = .abandoning ∧ (s.port 2).link.heldExpose = true) := by decide +kernel

theorem wit_EventsAndItemsAreServed :
    live.takes head = true ∧ (0x1FFFFFF : BitVec 32).toNat < 2 ^ 25
      ∧ (24 < live.events.length ∧ (live.events.getD 24 clearedEntry).latched = true)
      ∧ itemPlace 47 0 = none ∧ itemPlace 46 7 = some 200 ∧ itemPlace 1 0 = some 0
      ∧ (let s := { live with store := { live.store with
          queue := List.replicate 4 (.lock 1 .set), inFlight := some (.lock 1 ⟨.set, 4⟩ true) } }
        s.takes head = true ∧ 4 ≤ s.store.queue.length)
      ∧ (live.store.queue.length < 4 ∧ live.store.queue = [] ∧ live.store.inFlight = none
          ∧ ∀ p, (live.port p).power.pendingRecord = none) := by decide +kernel

theorem wit_TheNewestCopyIsNeverLost :
    (let q : Places ImageCopy := ⟨.valid ⟨65535, defaultImage⟩, .blank⟩
     q.newest ImageCopy.generation = some ⟨65535, defaultImage⟩ ∧ 0 = (65535 + 1) % 65536)
    ∧ (⟨.blank, .torn⟩ : Places ImageCopy).newest ImageCopy.generation = none
    ∧ live.supplied = true ∧ live.store.inFlight = none
    ∧ (let s := { live with store := { live.store with
        queue := [.lock 1 .set], inFlight := some (.image ⟨3, defaultImage⟩ true) } }
      s.store.inFlight = some (.image ⟨3, defaultImage⟩ true)
        ∧ s.store.queue = .lock 1 .set :: []) := by decide +kernel

/-- The invariants hold in the working hub of these tests, and a step there answers a next state. -/
theorem wit_StepsKeepTheInvariants :
    live.switchesMatch = true ∧ live.bounded = true ∧ live.covered = true ∧ live.reserveKept = true
      ∧ live.safe = true ∧ step live = .next live.tick :=
  ⟨by decide +kernel, by decide +kernel, by decide +kernel, by decide +kernel, by decide +kernel, rfl⟩


/-! ### Witnesses: the further cases of the statements above -/

theorem wit_StartSetsTheHub_operationInFlight :
    let s := { live with store := { live.store with inFlight := some (.lock 1 ⟨.set, 4⟩ true) } }
    s.supplied = true ∧ s.store.inFlight = some (.lock 1 ⟨.set, 4⟩ true) := by decide

theorem wit_WireCommandIsTheRow_bounds :
    (14 : BitVec 4) ≠ 15 ∧ (List.replicate 22 (0 : Byte)).length ≤ 22
      ∧ (∀ c : Cmd, c.code = 0x20 → c.args = List.replicate 22 0 →
        c = .malformed 0x20 (List.replicate 22 0)) :=
  ⟨by decide, by decide, fun c hc ha => by cases c <;> simp_all [Cmd.code, Cmd.args]⟩

/-- Port 2 after 19 overdraw samples of 600 mA, the next one due. -/
def overdrawn (figure : Nat) (pending : Bool) : State :=
  live.modPower 2 fun q =>
    { q with overdraw := 19, figure := figure, correctionPending := pending, history := [600] }

/-- At 601 mA the figure becomes 650; one of 1,500 mA cannot rise. -/
theorem wit_SampleIsRecordedAndSupervised_twentieth :
    (let w := ((overdrawn 400 true).port 2).power
     w.state = .on ∧ w.figure * 5 < (601 : BitVec 16).toNat * 4 ∧ 19 ≤ w.overdraw
      ∧ w.correctionPending = true)
    ∧ (let w := ((overdrawn 400 false).port 2).power
      w.correctionPending = false
        ∧ min 1500 (((w.record 601).history.foldl max 0 + 49) / 50 * 50) ≠ w.figure)
    ∧ (let s := overdrawn 1500 false
      let w := (s.port 2).power
      s.bounded = true ∧ w.correctionPending = false ∧ (1999 : BitVec 16).toNat < 2000
        ∧ w.figure * 5 < (1999 : BitVec 16).toNat * 4
        ∧ min 1500 (((w.record 1999).history.foldl max 0 + 49) / 50 * 50) = w.figure) := by
  decide +kernel

/-- The hub with its own CLAIM for port 1 in an attempt, whose request has been withdrawn. -/
def withdrawnClaim : State :=
  { claiming with claims := { claiming.claims with inFlight := some { claimOn 1 with withdrawn := true } } }

theorem wit_GrantClosesTheSwitch_otherCases :
    (correcting.supplied = true ∧ correcting.line.tx = .attempt
      ∧ correcting.sendingItem = some ⟨.claim, true⟩
      ∧ correcting.claims.inFlight = some ⟨⟨2, .correction 600, 0⟩, 900, 0, false⟩
      ∧ (correcting.port 2).power.state = .on ∧ correcting.commands.buffer = [])
    ∧ (withdrawnClaim.line.tx = .attempt ∧ withdrawnClaim.sendingItem = some ⟨.claim, true⟩
      ∧ withdrawnClaim.claims.inFlight = some { claimOn 1 with withdrawn := true }
      ∧ withdrawnClaim.commands.buffer = [] ∧ withdrawnClaim.bounded = true)
    ∧ (let s := claiming.modPower 1 fun q => { q with state := .off }
      s.sendingItem = some ⟨.claim, true⟩ ∧ (claimOn 1).req.kind = .powerOn
        ∧ (s.port (claimOn 1).req.port).power.state ≠ .claiming)
    ∧ (let s := correcting.modPower 2 fun q => { q with state := .off, closed := false }
      s.sendingItem = some ⟨.claim, true⟩ ∧ (s.port 2).power.state ≠ .on) := by decide +kernel

/-- A view in which station 4 has a surge that ends at 7. -/
theorem wit_PeerNoticesAreJudged_errors :
    (15 : BitVec 4).toNat ≠ live.station ∧ 24 < (List.replicate 25 (0 : Byte)).length
      ∧ (let s := { hub [] with view := [⟨0, 0, none, 0, false⟩, ⟨4, 9, some ⟨500, 7⟩, 0, false⟩] }
        s.supplied = true ∧ (4 : BitVec 4).toNat ≠ s.station
          ∧ viewTotal 6 s.view = 509 ∧ viewTotal 7 s.view = 9)
      ∧ (∀ how, RxError.payloadLength ≠ .brokeOff how) :=
  ⟨by decide, by decide, by decide +kernel, fun _ h => nomatch h⟩

/-- A TIGHT store with its first `n` slots SENT and the others FREE. -/
def tightAt (n : Nat) (s : State) : State :=
  { s with frames := { s.frames with
      tight := true
      slots := List.replicate n ⟨.sent, some (frameOf 1)⟩ ++ List.replicate (32 - n) ⟨.free, none⟩ } }

theorem wit_FramesAreReceived_waterMarks :
    (let s := { tightAt 28 (exposing 2 .exposing live) with frames :=
        { (tightAt 28 live).frames with tight := false } }
     s.supplied = true ∧ laneOpen s 2 = true ∧ (s.port 2).exposure.state = .exposing
      ∧ s.bounded = true ∧ s.frames.tight = false ∧ s.lowestFree = some 28
      ∧ s.img.highMark < s.occupancy + 1)
    ∧ fullStore.bounded = true := by decide +kernel

def focusAs (f : AxisRec → AxisRec) : State := live.modAxis focus2 f

theorem wit_LensCommandsAct_moves :
    (2 ≤ (2 : Byte).toNat)
    ∧ (let x := (focusAs fun x => { x with t := 2560 }).axis focus2
      clampTo x.params.lo x.params.hi ((x.t / 256 : Nat) + (-300 : BitVec 24).toInt : Int).toNat = 0)
    ∧ (let s := focusAs fun x => { x with state := .stopping, stopKind := some .guard, v := 100 }
      s.takes head = true ∧ (s.axis focus2).state = .stopping ∧ s.lens.guardActive = false)
    ∧ ({ live with lens := { live.lens with guardActive := true } }.lens.guardActive = true)
    ∧ (let x := (focusAs fun x => { x with state := .stoppedEnd, activeEnd := some .near, p := 2560 }).axis focus2
      x.state = .stoppedEnd ∧ x.activeEnd = some .near ∧ clampTo x.params.lo x.params.hi 9 < x.p / 256
        ∧ ¬ clampTo x.params.lo x.params.hi 11 < x.p / 256
        ∧ clampTo x.params.lo x.params.hi 10 * 256 = x.p)
    ∧ (let s := focusAs fun x => { x with state := .waitLink }
      s.takes head = true ∧ (s.axis focus2).state.waiting = true ∧ (s.axis focus2).staged = false)
    ∧ (let s := focusAs fun x => { x with state := .stopping, stopKind := some .command, v := 100 }
      s.takes head = true ∧ (s.axis focus2).state = .stopping
        ∧ (s.axis focus2).stopKind ≠ some .guard)
    ∧ (let x := live.axis focus2
      clampTo x.params.lo x.params.hi 0 * 256 = x.p ∧ x.staged = false ∧ 0 < x.params.holdTime
        ∧ live.lens.waitList = [])
    ∧ (let s := focusAs fun x => { x with state := .moving, v := 0 }
      (s.axis focus2).state = .moving ∧ (s.axis focus2).v = 0 ∧ s.lens.waitList = [])
    ∧ ((focusAs fun x => { x with state := .frozen }).axis focus2).state = .frozen := by
  decide +kernel

/-- Moves that the free reserve of 300 mA allows at a lower speed, refuses, and need no allowance. -/
theorem wit_LensCommandsAct_reserve :
    (let x := (focusAs fun x => { x with params := { x.params with
        moveMA := 600, vmax := 1000, vstart := 100, vstop := 500 } }).axis focus2
     let free := live.reserveAmount - (live.allowances - x.allowance)
     free < x.params.moveMA
      ∧ max x.params.vstart x.params.vstop ≤ x.params.vmax * free / x.params.moveMA)
    ∧ (let x := (focusAs fun x => { x with params := { x.params with
        moveMA := 600, vmax := 1000, vstart := 501, vstop := 500 } }).axis focus2
      let free := live.reserveAmount - (live.allowances - x.allowance)
      x.params.vmax * free / x.params.moveMA < max x.params.vstart x.params.vstop)
    ∧ ((focusAs fun x => { x with params := { x.params with moveMA := 0 } }).axis focus2).params.moveMA = 0
    ∧ ((hub [(1, 0, 0)]).reserveAmount = 0) := by decide +kernel

/-- Focus of port 2 in a scan move that lands with this update, the last of its step or not. -/
def scanLanding (ph : RunPhase) (settle : Nat) (rest : List AxisName) : State :=
  ((running ph live).setAxis focus2 { ramp 4864 512 5120 .far with source := .scan }).modScan 2
    fun x => { x with
      toLand := .focus :: rest
      program := [⟨0, 20, none, 1, settle⟩, ⟨1, 11, none, 2, 20⟩] }

theorem wit_LensUpdatesMoveTheAxis_scan :
    (let s := scanLanding .stepMove 20 [.iris]
     let x := s.axis focus2
     s.supplied = true ∧ s.bounded = true ∧ s.lens.waitList = [] ∧ x.state = .moving
      ∧ x.moveStep.2 = true ∧ x.source = .scan ∧ x.staged = false ∧ 0 < x.params.holdTime
      ∧ (s.port 2).scan.loader = .running ∧ .focus ∈ (s.port 2).scan.toLand
      ∧ (s.port 2).scan.toLand.filter (fun n => n != .focus) ≠ [])
    ∧ (let x := ((scanLanding .stepMove 20 []).port 2).scan
      x.toLand.filter (fun n => n != .focus) = [] ∧ x.phase = some .stepMove
        ∧ 0 < (x.program.getD (x.step.getD 0) noStep).settle)
    ∧ (let x := ((scanLanding .stepMove 0 []).port 2).scan
      (x.program.getD (x.step.getD 0) noStep).settle = 0)
    ∧ ((scanLanding .endMove 20 []).port 2).scan.phase = some .endMove := by decide +kernel

theorem wit_LensUpdatesMoveTheAxis_guard :
    (let s := live.setAxis focus2 { ramp 3584 1024 5120 .far with
        state := .stopping, stopKind := some .guard }
     let x := s.axis focus2
     s.bounded = true ∧ s.lens.waitList = [] ∧ x.state = .stopping ∧ x.stopKind = some .guard
      ∧ 0 < (x.stopStep s.img.dfreeze).v)
    ∧ (let s := live.setAxis focus2 { ramp 3584 1 5120 .far with
        state := .stopping, stopKind := some .guard }
      ((s.axis focus2).stopStep s.img.dfreeze).v = 0) := by decide +kernel

/-- A run of port 2 within a capture of a step, of a pass, with captures left to take. -/
def capturing (action : EndAction) (step pass counter passes : Nat) : State :=
  ((exposing 2 .receiving (running .capture live)).modScan 2 fun x => { x with
    step := some step, pass := some pass, counter := counter, back := some ⟨1, 2⟩
    result := { x.result with
      count := 2, passes := passes, loadedAction := action
      tallies := [⟨900, 3, 0⟩, ⟨0, 0, 0⟩] } }).modExposure 2 (fun e =>
        { e with origin := some (.scan ⟨3, step, pass, false⟩) })
    |>.modLink 2 fun l => { l with gate := .opened }

theorem wit_ScanCommandsAct_frameEnd :
    (let s := capturing .stay 0 1 2 1
     let x := (s.port 2).scan
     s.supplied = true ∧ s.bounded = true ∧ laneOpen s 2 = true ∧ (s.port 2).link.gate = .opened
      ∧ (s.port 2).exposure.origin = some (.scan ⟨3, 0, 1, false⟩)
      ∧ (s.port 2).exposure.held = none ∧ x.loader = .running ∧ x.phase = some .capture
      ∧ x.runNumber = 3 ∧ x.step = some 0 ∧ x.pass = some 1 ∧ 0 < x.result.tallies.length
      ∧ 1 < x.counter ∧ s.lens.guardActive = false ∧ (s.axis focus2).staged = false
      ∧ (s.axis focus2).state = .rest ∧ (s.axis ⟨2, .iris⟩).state = .rest
      ∧ (s.axis ⟨2, .iris⟩).staged = false)
    ∧ (let x := ((capturing .stay 0 1 1 1).port 2).scan
      x.counter ≤ 1 ∧ 0 + 1 < x.result.count)
    ∧ (let x := ((capturing .stay 1 1 1 2).port 2).scan
      x.step = some 1 ∧ ¬ 1 + 1 < x.result.count ∧ 1 < x.result.passes)
    ∧ (let x := ((capturing .stay 1 1 1 1).port 2).scan
      x.result.count ≤ 1 + 1 ∧ x.result.passes ≤ 1 ∧ x.result.loadedAction = .stay)
    ∧ (let x := ((capturing .goBack 1 1 1 1).port 2).scan
      x.result.loadedAction = .goBack ∧ x.back = some ⟨1, 2⟩)
    ∧ (let x := ((capturing .best 1 1 1 1).port 2).scan
      x.result.loadedAction = .best ∧ bestStep x.result.tallies = some (0, 300))
    ∧ bestStep [⟨0, 0, 0⟩, ⟨0, 0, 0⟩] = none := by decide +kernel

theorem wit_ScanCommandsAct_loader :
    (let s := loaded .loading live
     s.takes head = true ∧ (s.port 2).scan.loader = .loading)
    ∧ endActionArg 3 = none ∧ yesNoArg 2 = none ∧ ¬ 2 ≤ (1 : Byte).toNat
    ∧ ((loaded .cancelled live).port 2).scan.loader = .cancelled
    ∧ (let s := (running .stepMove live).setAxis focus2 { ramp 2560 1024 5120 .far with source := .scan }
      s.takes head = true ∧ (s.port 2).scan.loader = .running ∧ (s.axis focus2).source = .scan
        ∧ (s.axis focus2).state = .moving ∧ 0 < (s.axis focus2).v ∧ focus2 ∉ s.lens.waitList)
    ∧ (let s := (running .stepMove live).modAxis focus2 fun x =>
        { x with source := .scan, state := .waitPower }
      (s.axis focus2).state.waiting = true ∧ (s.axis focus2).staged = false) := by decide +kernel

/-- Slot 5 alone is occupied, and the store is TIGHT with a LOW mark of 0. -/
def tightSlot (st : SlotState) : State :=
  let s := sending st (hub [(7, 0, 0), (25, 2, 1)])
  { s with frames := { s.frames with tight := true } }

theorem wit_SlotsAreReleasedAndResent_waterMarks :
    let s := tightSlot .sent
    s.takes head = true ∧ s.bounded = true ∧ (s.slot 5).state = .sent ∧ s.frames.tight = true
      ∧ s.occupancy = 1 ∧ s.img.lowMark = 0 := by decide +kernel

theorem wit_TheFrameOutLinkRuns_moreEnds :
    (let s := tightSlot .releasePending
     s.supplied = true ∧ s.bounded = true ∧ s.outLink.send = some ⟨5, .record, 0, false⟩
      ∧ (s.slot 5).record = some (frameOf 2) ∧ (s.slot 5).state = .releasePending
      ∧ s.frames.outQueue = [] ∧ s.frames.tight = true)
    ∧ (let s := tightSlot .sending
      (s.slot 5).state = .sending ∧ s.img.autoRelease 2 = true)
    ∧ (let s := sending .sending live
      s.pending = [] ∧ (s.slot 5).record = some (frameOf 2) ∧ (frameOf 2).pixels ≠ []) := by
  decide +kernel

theorem wit_SweepCommandsAct_merges :
    (let s := (hub [(16, 2, 1)]).modPower 2 fun q => { q with state := .claiming }
     let t := { s with claims := { s.claims with inFlight := some (claimOn 2) } }
     t.takes head = true ∧ t.entry? 2 .dark = none ∧ t.entry? 2 .live = none
      ∧ (t.port 2).power.state = .claiming ∧ t.claims.inFlight = some (claimOn 2)
      ∧ (claimOn 2).req.kind = .powerOn ∧ t.bounded = true)
    ∧ ((listed .dark .gathering (hub [])).takes head = true
      ∧ (listed .dark .gathering (hub [])).entry? 2 .dark ≠ none)
    ∧ (let s := listed .live .waiting live
      s.takes head = true ∧ s.entry? 2 .dark = none ∧ s.entry? 2 .live ≠ none
        ∧ (s.port 2).power.state.powered = true) := by decide +kernel

/-- A trace of one crossing at bin 12, and one that never reaches its threshold. -/
def openTrace : SweepRec :=
  { newSweep with n := 1, sums := List.replicate 12 0 ++ List.replicate 20 (900 : Int) }

def flatCalibration : Calibration := ⟨List.replicate 32 0, 1000, 16⟩

theorem wit_AcquisitionsAreJudged_search :
    findCrossing 400 9 openTrace.sums = some ⟨12, 0, 900⟩
      ∧ findCrossing 901 9 openTrace.sums = none
      ∧ (classify .dark 400 10000 66 flatCalibration openTrace).cls = .opened
      ∧ (classify .dark 400 300 66 flatCalibration openTrace).cls = .none
      ∧ (classify .live 400 300 66 flatCalibration openTrace).cls = .none
      ∧ (classify .dark 950 300 66 flatCalibration openTrace).cls = .noEnd
      ∧ (classify .live 950 300 66 flatCalibration openTrace).cls = .none := by decide +kernel

/-- A live session of port 2 within a piece, with its sweep as given. -/
def inPiece (n done : Nat) (entered : Bool) : State :=
  engineAt (.piece { session with sweep := { newSweep with n := n } } done true)
    (live.modLink 2 fun l => { l with time := .piece, waitEntered := entered })

theorem wit_TheLocatorRuns_ends :
    (let s := inPiece 3 3 true
     let sw := judgeTrace s.img.disturbLimit { newSweep with n := 3 } [5]
     s.supplied = true ∧ s.locator.engine = .piece { session with sweep := { newSweep with n := 3 } } 3 true
      ∧ sw.n < 16 ∧ (s.port 2).link.time = .piece ∧ (s.port 2).link.waitEntered = true)
    ∧ (let s := inPiece 3 4 false
      (s.port 2).link.waitEntered = false ∧ quietPort (s.port 2) = true ∧ s.locator.formed = [])
    ∧ 16 ≤ (judgeTrace live.img.disturbLimit { newSweep with n := 15 } [5]).n
    ∧ (let r : SweepRec := { newSweep with completed := 63, n := 60, last := some [5] }
      let s := engineAt (.darkRun [] 2 [3] r) (hub [])
      s.bounded = true ∧ s.locator.engine = .darkRun [] 2 [3] r ∧ 63 ≤ r.completed
        ∧ (judgeTrace s.img.disturbLimit r [5]).rejections ≠ 4)
    ∧ (let r : SweepRec := { newSweep with n := 3, last := some [5], rejections := 3 }
      let s := engineAt (.darkRun [] 2 [] r) (hub [])
      (judgeTrace s.img.disturbLimit r [900]).rejections = 4
        ∧ (judgeTrace s.img.disturbLimit r [900]).n < 4 ∧ s.locator.formed = []
        ∧ s.locator.setAside = none ∧ s.nextLive = none)
    ∧ (let se : Session := { session with sweep := { newSweep with n := 4 } }
      (engineAt (.waitingGap se) live).locator.engine = .waitingGap se ∧ 4 ≤ se.sweep.n)
    ∧ (let s := engineAt (.darkRun [] 2 [] newSweep)
        { live with locator := { live.locator with gathering := some ⟨[3, 1], 0⟩ } }
      s.locator.gathering = some ⟨[3, 1], 0⟩ ∧ s.locator.formed = []
        ∧ s.locator.engine = .darkRun [] 2 [] newSweep) := by decide +kernel

/-- The other invariants hold there as well, and a microsecond keeps the order of arrival. -/
theorem wit_StepsKeepTheOrders :
    live.locksHold = true ∧ live.ordered = true ∧ live.slotsOrdered = true
      ∧ live.commands.buffer = [] ∧ live.keepsArrivals live.tick = true := by decide +kernel

/-! ### Tests of the marks that outlive their cause -/

/-- R57: an axis that entered WAIT_LINK ends the piece, though it has left the wait by then. -/
theorem test_wait_link_entry_ends_the_piece :
    (after (.acquisitionComplete [5]) (inPiece 3 1 true)).out.contains (.quietRelease 2) = true
      ∧ (after (.acquisitionComplete [5]) (inPiece 3 1 false)).out = [.stimulus 2] := by
  decide +kernel

/-- R159: a break of 11 released bit times leaves the line idle. R163: a driven bit in the end delimiter, here
with 5 of its bits released, restarts the idle count, and nothing is received. -/
theorem test_silence_and_a_driven_delimiter_bit :
    (after (.receiveError (.brokeOff .silence) false) live).line.idle = 11
      ∧ after (.receiveError (.brokeOff .startBit) false) { live with line := { live.line with idle := 5 } }
        = { live with line := { live.line with idle := 0 } } := by decide +kernel

/-! ### Witnesses: the cases that the statements gained with the second review -/

/-- Nothing of the hub's own waits outside the transmit queue, and its queue holds 15 REPLYs. -/
def oneFree : State := withQueue (fullQueue.take 15) live

def holding (h : HeldReply) (parts : List Reply) : State :=
  { oneFree with
    line := { oneFree.line with held := some h }
    commands := { oneFree.commands with unit := .replying, parts := parts } }

theorem wit_ReplyJoinsAFreeQueue_places :
    ((inMute live).muted = true ∧ (inMute live).line.counters.repliesNotSent + 1 ≤ 65535)
    ∧ (let s := withQueue (List.replicate 16 aReport) live
      s.muted = false ∧ 16 ≤ s.line.queue.length
        ∧ (replyParts head 0x05 (done []) (summaryFlags s)).length = 1
        ∧ dropYoungestReport s.line.queue = some (List.replicate 15 aReport))
    ∧ (oneFree.muted = false ∧ oneFree.line.queue.length = 15 ∧ oneFree.commands.buffer = []
      ∧ oneFree.standingQueued = false ∧ oneFree.claimReady = false
      ∧ oneFree.claims.standingWanted = false ∧ oneFree.line.held = none)
    ∧ (let s := { oneFree with claims := { oneFree.claims with queue := [⟨1, .powerOn, 0⟩] } }
      s.line.queue.length = 15 ∧ s.claimReady = true)
    ∧ (let s := { oneFree with claims := { oneFree.claims with standingWanted := true } }
      s.claimReady = false ∧ s.claims.standingWanted = true ∧ s.standingQueued = false)
    ∧ (let s := holding .part [restartReply]
      s.claimReady = false ∧ s.line.held = some .part ∧ s.commands.parts = [restartReply]
        ∧ s.commands.unit = .replying)
    ∧ (let s := holding .part [restartReply, restartReply]
      s.commands.parts = restartReply :: [restartReply] ∧ dropYoungestReport s.line.queue = none)
    ∧ (let s := holding (.overflow restartReply) []
      s.line.held = some (.overflow restartReply) ∧ s.commands.parts = []) := by decide +kernel

/-- Port 2 with a frame coming in, a scan running and a live sweep listed. -/
def busyPort : State := listed .live .running (running .capture receiving)

theorem wit_PowerOffOpensTheSwitch_blocks :
    ((busyPort.port 2).exposure.state ≠ .idle
      ∧ (busyPort.port 2).exposure.origin = some (.line 4 41))
    ∧ (live.port 2).exposure.state = .idle
    ∧ ((busyPort.port 2).link.gate = .opened ∧ busyPort.fillingSlot 2 = some (5, frameOf 2))
    ∧ (live.port 2).link.gate ≠ .opened
    ∧ ((busyPort.port 2).scan.loader = .running ∧ busyPort.bounded = true)
    ∧ (live.port 2).scan.loader ≠ .running
    ∧ (busyPort.entry? 2 .live ≠ none ∧ live.entry? 2 .live = none)
    ∧ (live.muted = false ∧ live.line.queue.length < 15) := by decide +kernel

theorem wit_AttemptsGoOnTheLine_ends :
    (let s := inAttempt aReport.body live
     s.supplied = true ∧ s.line.tx = .attempt ∧ s.sendingItem = some ⟨aReport.body, true⟩
      ∧ aReport.body = .report ⟨.started, none, .nothing, 0, 1⟩
      ∧ s.claimReady = false ∧ s.claims.standingWanted = false ∧ s.line.held = none
      ∧ s.commands.buffer = [] ∧ s.locator.engine = .idle)
    ∧ (let r : Reply := ⟨2, 9, 0x05, .done, .none, 0, 0, true, false, []⟩
      let s := inAttempt (.reply r) live
      s.sendingItem = some ⟨.reply r, true⟩ ∧ isRestartReply r = false
        ∧ s.commands.unit ≠ .restarting)
    ∧ ((inMute live).line.tx ≠ .ready ∧ live.line.queue = []) := by decide +kernel

theorem wit_PeerStandingIsRecorded_reports :
    (let s := hub [(10, 0, 0x10)]
     s.supplied = true ∧ s.line.idle = 11 ∧ s.img.reported .cellOver = true ∧ s.muted = false
      ∧ s.line.queue.length + s.waitingOutside < 16)
    ∧ (let s := withQueue fullQueue (hub [(10, 0, 0x10)])
      ¬ s.line.queue.length + s.waitingOutside < 16)
    ∧ (hub [(10, 0, 0)]).img.reported .cellOver = false := by decide +kernel

/-- The hub's own TRIGGER of line 4 in its attempt. -/
def ownTrigger (s : State) : State := inAttempt (.trigger 0 4 (some 10)) s

/-- Port 2 within a piece, with no trigger delay. -/
def pieceRuns : State :=
  let s := hub [(16, 2, 1), (17, 2, 400), (19, 2, 4)]
  engineAt (.piece session 2 true) ((resting ⟨2, .iris⟩ 0 (resting focus2 0
    (powered 2 400 .up s))).modLink 2 fun l => { l with time := .piece })

def missedList (n : Nat) (s : State) : State :=
  { s with triggers := { s.triggers with
      missed := List.replicate n ⟨0, .line 4 1, 1, .overrun, 0⟩, nextRecord := n } }

theorem wit_TriggersReachTheirPorts_ownAndPiece :
    (let s := ownTrigger (lineSeen 9 0 live)
     s.supplied = true ∧ s.line.tx = .attempt
      ∧ s.sendingItem = some ⟨.trigger 0 4 (some 10), true⟩ ∧ s.commands.buffer = []
      ∧ (10 + 256 - (s.triggers.lines.getD 4 startLine).last) % 256 = 1
      ∧ s.locator.engine = .idle)
    ∧ (10 + 256 - ((lineSeen 10 0 live).triggers.lines.getD 4 startLine).last) % 256 = 0
    ∧ (let r := pieceRuns.port 2
      (pieceRuns.img.subscribed 2).map Fin.val = some 4 ∧ missReason pieceRuns 2 = none
        ∧ r.link.time = .piece ∧ pieceRuns.locator.engine = .piece session 2 true
        ∧ pieceRuns.img.triggerDelay 2 = 0 ∧ pieceRuns.poweredMoving 2 = false)
    ∧ (let s := missedList 16 (exposing 2 .exposing live)
      s.bounded = true ∧ s.triggers.missed.length ≤ 16 ∧ s.triggers.nextRecord < 65536
        ∧ s.triggers.dropped + 1 ≤ 65535 ∧ (s.img.subscribed 2).map Fin.val = some 4
        ∧ missReason s 2 = some .overrun) := by decide +kernel

theorem wit_ExposureTimersRunOut_scanTimeout :
    (let s := (exposing 2 .exposing (running .capture live)).modExposure 2 fun e =>
        { e with origin := some (.scan ⟨3, 0, 1, false⟩) }
     s.supplied = true ∧ (s.port 2).exposure.state = .exposing ∧ (s.port 2).exposure.held = none
      ∧ (s.port 2).exposure.origin = some (.scan ⟨3, 0, 1, false⟩) ∧ s.bounded = true
      ∧ (s.port 2).scan.runNumber = 3 ∧ (s.port 2).scan.loader = .running)
    ∧ (let s := (exposing 2 .exposing live).modAxis focus2 fun x => { x with state := .waitExposure }
      (s.port 2).exposure.state = .exposing ∧ ((s.port 2).axis .focus).state = .waitExposure
        ∧ (s.port 2).link.time = .free ∧ laneOpen s 2 = true ∧ (s.port 2).link.gate ≠ .opened) := by
  decide +kernel

theorem wit_PositionReportsAreChecked_counts :
    (let x := (focusAs fun x => { x with p := 256000, params := { x.params with hi := 2000 } }).axis focus2
     ¬ (max 0 (x.p / 256) - min 0 (x.p / 256) ≤ x.params.followTol) ∧ x.follow < 4)
    ∧ (let x := (focusAs fun x => { x with state := .stoppedEnd, activeEnd := some .near }).axis focus2
      x.state = .stoppedEnd ∧ x.activeEnd = some .near ∧ x.staged = false
        ∧ max 0 (x.p / 256) - min 0 (x.p / 256) ≤ x.params.followTol)
    ∧ (let x := (live.setAxis focus2 { ramp 2560 1024 5120 .far with
        state := .stopping, stopKind := some .guard }).axis focus2
      x.state.poweredMoving = true ∧ 0 < x.v ∧ x.dir = .far ∧ x.stopKind = some .guard) := by
  decide +kernel

/-- Port 2 under policy WAIT, its axes at rest, with an exposure in a state. -/
def waitPolicy (st : ExposureState) : State :=
  exposing 2 st (resting ⟨2, .iris⟩ 0 (resting focus2 0
    (powered 2 400 .up (hub [(16, 2, 1), (1, 0, 300), (21, 2, 1)]))))

theorem wit_LensCommandsAct_waitGate :
    (let s := waitPolicy .exposing
     s.takes head = true ∧ s.img.policyWait 2 = true ∧ (s.port 2).link.time = .free
      ∧ (s.port 2).exposure.state = .exposing ∧ (s.axis focus2).state = .rest
      ∧ s.lens.guardActive = false ∧ s.lens.waitList = [])
    ∧ ((waitPolicy .deferred).port 2).exposure.state = .deferred
    ∧ (let s := exposing 2 .exposing live
      s.img.policyWait 2 = false ∧ (s.port 2).exposure.state = .exposing)
    ∧ (let s := (exposing 2 .exposing live).modAxis focus2 fun x =>
        { x with state := .stopping, stopKind := some .command, v := 100 }
      s.takes head = true ∧ (s.axis focus2).state = .stopping
        ∧ (s.port 2).exposure.state = .exposing) := by decide +kernel

/-- Focus of port 2 lands with this update, while an exposure of the port is DEFERRED. -/
def landsDeferred : State :=
  exposing 2 .deferred (live.setAxis focus2 (ramp 4864 512 5120 .far))

theorem wit_LensUpdatesMoveTheAxis_deferred :
    (let s := landsDeferred
     s.bounded = true ∧ s.lens.waitList = [] ∧ (s.axis focus2).state = .moving
      ∧ (s.axis focus2).moveStep.2 = true ∧ (s.port 2).exposure.state = .deferred
      ∧ ((s.port 2).axis .iris).state.poweredMoving = false ∧ (s.port 2).link.time ≠ .abandoning
      ∧ (s.port 2).link.state.passes = true)
    ∧ (let s := landsDeferred.modAxis ⟨2, .iris⟩ fun x => { x with state := .moving }
      AxisName.iris ≠ focus2.name ∧ ((s.port 2).axis .iris).state.poweredMoving = true)
    ∧ (let s := landsDeferred.modLink 2 fun l => { l with time := .abandoning }
      (s.port 2).exposure.state = .deferred ∧ (s.port 2).link.time = .abandoning) := by
  decide +kernel

/-- Slot 5 waits in the outbound queue of a link that is UP. -/
def linkReady : State :=
  { aligning with outLink := { aligning.outLink with state := .up, ready := false } }

theorem wit_TheFrameOutLinkRuns_nextSend :
    (linkReady.supplied = true ∧ linkReady.outLink.send = none ∧ linkReady.outLink.state = .up
      ∧ linkReady.frames.outQueue = 5 :: [] ∧ linkReady.slot 5 = ⟨.ready, some (frameOf 2)⟩)
    ∧ (let t := linkReady.setSlot 6 ⟨.sending, some (frameOf 1)⟩
      let s := { t with outLink :=
        { t.outLink with ready := true, send := some ⟨6, .pixels, 0, false⟩ } }
      s.outLink.send = some ⟨6, .pixels, 0, false⟩ ∧ s.outLink.ready = true
        ∧ s.frames.outQueue = 5 :: [] ∧ s.slot 5 = ⟨.ready, some (frameOf 2)⟩
        ∧ s.slot 6 = ⟨.sending, some (frameOf 1)⟩) := by decide +kernel

/-- A calibration of short traces: Q is a sixteenth of the sum, L at least 1, and no crossing of 0. -/
theorem wit_AcquisitionsAreJudged_calibration :
    ([List.replicate 2048 0#12] : List Trace) ≠ [] ∧ (∀ t ∈ [List.replicate 2048 0#12], t.length = 2048)
      ∧ findCrossing ((calibrate []).l / 2) 1 (calibrate []).q = none
      ∧ (let c := calibrate (List.replicate 16 [0#12, 1#12])
        findCrossing (c.l / 2) 1 c.q = none ∧ c.l = 1 ∧ c.q = [0, 1]) := by
  refine ⟨List.cons_ne_nil _ _, ?_, by decide, by decide +kernel⟩
  intro t h
  simp only [List.mem_singleton] at h
  subst h
  exact List.length_replicate

def sessionOf (n : Nat) (due : Bool) : Session :=
  { session with sweep := { newSweep with n := n }, due := due }

def asideWith (se : Session) (s : State) : State :=
  { s with locator := { s.locator with setAside := some se } }

theorem wit_TheLocatorRuns_setAside :
    (let s := { engineAt (.waitingGap session) (listed .live .running live) with locator :=
        { (engineAt (.waitingGap session) (listed .live .running live)).locator with
            gathering := some ⟨[3], 0⟩ } }
     s.supplied = true ∧ s.locator.gathering = some ⟨[3], 0⟩ ∧ s.locator.formed = []
      ∧ s.locator.engine = .waitingGap session ∧ s.entry? 2 .live ≠ none)
    ∧ (engineAt (.calibratingSession session) live).locator.engine = .calibratingSession session
    ∧ (let s := inPiece 3 4 false
      let t := { s with locator := { s.locator with formed := [[3]] } }
      t.locator.formed = [3] :: [] ∧ (t.port 2).link.time = .piece)
    ∧ (let s := asideWith session (engineAt (.darkRun [] 3 [] { newSweep with completed := 63 }) live)
      s.locator.engine = .darkRun [] 3 [] { newSweep with completed := 63 }
        ∧ s.locator.formed = [] ∧ s.locator.setAside = some session)
    ∧ (let s := asideWith (sessionOf 4 false) (engineAt (.calibratingBatch [3]) live)
      s.locator.engine.session? = none ∧ s.locator.setAside = some (sessionOf 4 false)
        ∧ 4 ≤ (sessionOf 4 false).sweep.n)
    ∧ (sessionOf 3 false).sweep.n < 4
    ∧ (live.locator.engine.session? = none ∧ live.locator.setAside = none) := by decide +kernel

theorem wit_TheLocatorRuns_grantAndDeadline :
    (let s := engineAt (.calibratingSession session) live
     let r := s.port 2
     s.supplied = true ∧ s.locator.engine = .calibratingSession session ∧ session.due = false
      ∧ r.link.time = .free ∧ r.link.state ≠ .dark ∧ r.exposure.state = .idle
      ∧ (r.axis .focus).state.poweredMoving = false ∧ (r.axis .focus).state ≠ .waitLink
      ∧ (r.axis .iris).state.poweredMoving = false ∧ (r.axis .iris).state ≠ .waitLink
      ∧ r.scan.settleLeft = none)
    ∧ (let r := (live.modScan 2 fun x => { x with settleLeft := some 2000 }).port 2
      r.scan.settleLeft = some 2000 ∧ ¬ 2000 < 2000)
    ∧ ((sessionOf 4 true).due = true
      ∧ (engineAt (.calibratingSession (sessionOf 4 true)) live).locator.engine
          = .calibratingSession (sessionOf 4 true))
    ∧ ((inPiece 4 1 false).locator.engine = .piece (sessionOf 4 false) 1 true
      ∧ ((inPiece 4 1 false).port 2).link.time = .piece) := by decide +kernel

theorem wit_EventsAndItemsAreServed_results :
    (live.events.getD 24 clearedEntry).latched = true ∧ itemPlace 46 7 = some 200
      ∧ 200 < live.store.working.length := by decide +kernel

/-! ### Tests of the line's idle count -/

/-- R159, R160: after a notice the line is not free: neither a second notice nor an attempt begins before 11
released bit times have passed. -/
theorem test_line_not_free_after_a_notice :
    let s := after (.standingReceived 3 15 100) (live.joinTx (.standing none))
    s.line.idle = 0 ∧ (after (.standingReceived 4 15 100) s).view = s.view
      ∧ (after .attemptBegin s).line.tx = .ready
      ∧ (after .attemptBegin { s with line := { s.line with idle := 10 } }).line.tx = .ready
      ∧ (after .attemptBegin { s with line := { s.line with idle := 11 } }).line.tx = .attempt := by
  decide +kernel

/-- R161: the loser of an arbitration receives the notice that won, and waits for its end. -/
theorem test_loser_receives_the_winner :
    let s := after .arbitrationLost (after .attemptBegin (live.joinTx (.standing none)))
    s.line.idle = 0 ∧ s.tick.line.idle = 0
      ∧ (findEntry 3 (after (.standingReceived 3 15 100) s).view).isSome = true
      ∧ (after (.standingReceived 3 15 100) s).line.receiving = false := by decide +kernel
/-! ### Witnesses of the widened statements of the line, the lens controller and the store -/

def rep (n : Nat) : HeadReport := ⟨BitVec.ofNat 16 n, false, false⟩

/-- A unit REPLYING with `n` parts to offer. -/
def replying (n : Nat) (s : State) : State :=
  { s with commands := { s.commands with
      unit := .replying, buffer := []
      parts := List.replicate n ⟨1, 7, 1, .done, .none, 0, 0, true, false, []⟩ } }

def aTrigger (i : Fin 2) : TxItem := ⟨.trigger i 4 none, false⟩

/-- A STANDING in its attempt with a held reply of two parts and a REPORT that waits, in a full queue. -/
def standingBesideParts : State :=
  let s := withQueue (⟨.standing (some 700), true⟩ :: aReport :: fullQueue.take 14) (inAttempt (.standing (some 700)) live)
  replying 2 { s with line := { s.line with held := some .part } }

theorem wit_AttemptsGoOnTheLine_more :
    (live.supplied = true ∧ live.line.tx ≠ .attempt)
    ∧ (let s := standingBesideParts
      s.line.tx = .attempt ∧ s.sendingItem = some ⟨.standing (some 700), true⟩ ∧ s.commands.buffer = []
        ∧ s.line.held = some .part ∧ s.line.queue.length = 16)
    ∧ (let s := withQueue [⟨.standing (some 700), true⟩, ⟨.standing none, false⟩] standingSent
      s.sendingItem = some ⟨.standing (some 700), true⟩
        ∧ spareStanding s ⟨.standing (some 700), true⟩ = true ∧ s.line.failureRun < 31) := by
  decide +kernel

/-- R166, R173: the first part takes the place of the STANDING, and the second displaces the REPORT. -/
theorem test_standing_end_displaces_a_report :
    let t := after (.attemptEnd true false false) standingBesideParts
    aReport ∈ standingBesideParts.line.queue ∧ aReport ∉ t.line.queue ∧ t.line.queue.length = 16
      ∧ t.line.held = none ∧ t.line.counters.reportsNotSent = 1 := by decide +kernel

/-- A failure that brings MUTE, with a TRIGGER of each input, a REPLY and a REPORT in the queue. -/
def mutedByFailure : State :=
  let s := withQueue [⟨.report ⟨.started, none, .nothing, 0, 1⟩, true⟩, aTrigger 0, aTrigger 1] live
  let s := { s with line := { s.line with
    tx := .attempt, failureRun := 31, queue := s.line.queue ++ fullQueue.take 2
    counters := { s.line.counters with repliesNotSent := 65534, reportsNotSent := 65535 } } }
  replying 1 s

theorem wit_MuteEmptiesTheQueue_counts :
    let s := mutedByFailure
    s.supplied = true ∧ s.line.tx = .attempt
      ∧ s.sendingItem = some ⟨.report ⟨.started, none, .nothing, 0, 1⟩, true⟩
      ∧ spareStanding s ⟨.report ⟨.started, none, .nothing, 0, 1⟩, true⟩ = false
      ∧ 31 ≤ s.line.failureRun ∧ s.commands.unit ≠ .restarting ∧ s.commands.buffer = []
      ∧ (∀ i, (s.sense i).overrun ≤ 65535) ∧ s.bounded = true ∧ aTrigger 0 ∈ s.line.queue
      ∧ aTrigger 1 ∈ s.line.queue ∧ (s.events.getD 11 clearedEntry).count ≤ 255
      ∧ s.line.counters.repliesNotSent ≤ 65535 ∧ s.line.counters.reportsNotSent ≤ 65535 := by
  decide +kernel

/-- R89, R164: each withdrawn TRIGGER is an overrun, each REPLY is counted, at 65,535 at the most. -/
theorem test_mute_counts :
    let t := after .transmitFailure mutedByFailure
    (t.sense 0).overrun = 1 ∧ (t.sense 1).overrun = 1 ∧ (t.events.getD 11 clearedEntry).count = 2
      ∧ t.line.counters.repliesNotSent = 65535 ∧ t.line.queue = [] := by decide +kernel

/-- Port 1's claim, withdrawn in flight, at the failure that brings MUTE; `queue` are the requests that wait. -/
def withdrawnAtMute (queue : List ClaimReq) : State :=
  let s := claiming.modPower 1 fun q => { q with state := .off }
  { s with
    claims := { s.claims with inFlight := some { claimOn 1 with withdrawn := true }, queue := queue }
    line := { s.line with failureRun := 31, queue := [⟨.claim, true⟩] } }

theorem wit_MuteEmptiesTheQueue_withdrawn :
    (let s := withdrawnAtMute [⟨0, .powerOn, 0⟩]
     s.supplied = true ∧ s.line.tx = .attempt ∧ s.sendingItem = some ⟨.claim, true⟩
      ∧ spareStanding s ⟨.claim, true⟩ = false ∧ 31 ≤ s.line.failureRun
      ∧ s.commands.unit ≠ .restarting ∧ s.commands.buffer = [] ∧ ⟨.claim, true⟩ ∈ s.line.queue
      ∧ s.claims.inFlight = some { claimOn 1 with withdrawn := true }
      ∧ ¬ ∃ q ∈ s.claims.queue, q.port = (claimOn 1).req.port)
    ∧ (let s := withdrawnAtMute [⟨1, .powerOn, 0⟩]
      s.claims.inFlight = some { claimOn 1 with withdrawn := true }
        ∧ ∃ q ∈ s.claims.queue, q.port = (claimOn 1).req.port) := by decide +kernel

/-- R24, R164: MUTE puts a withdrawn claim's request back at the head, but where a newer one of its port waits. -/
theorem test_mute_returns_the_claim :
    (after .transmitFailure (withdrawnAtMute [⟨0, .powerOn, 0⟩])).claims.queue
      = [(claimOn 1).req, ⟨0, .powerOn, 0⟩]
    ∧ (after .transmitFailure (withdrawnAtMute [⟨1, .powerOn, 0⟩])).claims.queue
      = [⟨1, .powerOn, 0⟩] := by decide +kernel

/-- Port 2 in a running scan, its FOCUS axis in motion toward the far end. -/
def scanMoving (f : AxisRec → AxisRec) : State :=
  ((running .stepMove live).setAxis focus2 { ramp 2560 1024 5120 .far with source := .scan }).modAxis
    ⟨2, .iris⟩ f

theorem wit_PositionReportsAreChecked_scan :
    (let s := scanMoving fun x => { x with bad := 2 }
     let x := s.axis ⟨2, .iris⟩
     s.supplied = true ∧ s.bounded = true ∧ laneOpen s 2 = true
      ∧ (∀ a ∈ s.lens.waitList, (s.axis a).state = .waitPower)
      ∧ (s.port 2).scan.loader = .running ∧ x.last = some (rep 0) ∧ x.params.varLimit < 60000
      ∧ 2 ≤ x.bad ∧ x.staged = false ∧ x.state = .rest
      ∧ (s.axis focus2).source = .scan ∧ (s.axis focus2).state = .moving ∧ 0 < (s.axis focus2).v)
    ∧ (let x := (scanMoving id).axis focus2
      x.state.poweredMoving = true ∧ 0 < x.v ∧ x.dir = .far ∧ x.last = none ∧ ¬ 4 ≤ x.follow)
    ∧ (let s := (running .stepMove live).modAxis focus2 fun x =>
        { x with follow := 4, p := 256000, last := none }
      let y := (s.modAxis ⟨2, .iris⟩ fun x => { x with state := .waitExposure, source := .scan }).axis ⟨2, .iris⟩
      (s.axis focus2).params.followTol < (s.axis focus2).p / 256 ∧ 4 ≤ (s.axis focus2).follow
        ∧ y.state.waiting = true ∧ y.state ≠ .waitPower ∧ y.staged = false ∧ y.source = .scan) := by
  decide +kernel

/-- An end flag reached under a GUARD stop, and under one of a command. -/
theorem wit_PositionReportsAreChecked_scanStops :
    (let s := (scanMoving id).modAxis focus2 fun x =>
        { x with state := .stopping, stopKind := some .guard }
     let x := s.axis focus2
     s.supplied = true ∧ s.bounded = true ∧ laneOpen s 2 = true
      ∧ (∀ a ∈ s.lens.waitList, (s.axis a).state = .waitPower)
      ∧ (s.port 2).scan.loader = .running ∧ x.state = .stopping ∧ x.stopKind = some .guard
      ∧ x.state.poweredMoving = true ∧ 0 < x.v ∧ x.dir = .far ∧ x.last = none ∧ ¬ 4 ≤ x.follow)
    ∧ ((scanMoving id).axis focus2).stopKind ≠ some .guard := by decide +kernel

/-- R81, R133: an end switch cancels the scan; R80, R134: a lost axis does, and stops the other's move. -/
theorem test_reports_cancel_the_scan :
    (let t := after (.positionReport 2 ⟨10, false, true⟩ (rep 0)) (scanMoving id)
     (t.port 2).scan.result.reason = some .endStop ∧ (t.axis focus2).state = .stoppedEnd)
    ∧ (let t := after (.positionReport 2 (rep 10) (rep 60000)) (scanMoving fun x => { x with bad := 2 })
      (t.port 2).scan.result.reason = some .lost ∧ (t.axis focus2).state = .stopping
        ∧ (t.axis ⟨2, .iris⟩).state = .lost) := by decide +kernel

/-- Axis 2-FOCUS on the wait list, with the lens reserve of 300 mA of which axis 2-IRIS holds a part. -/
def waitsForPower (need taken : Nat) : State :=
  let s := live.modAxis focus2 fun x =>
    { x with state := .waitPower, t := 2560, params := { x.params with moveMA := need, vmax := 300, vstart := 50, vstop := 50 } }
  let s := s.modAxis ⟨2, .iris⟩ fun x =>
    { x with state := .holding, hold := some 5, allowance := taken }
  { s with lens := { s.lens with waitList := [focus2] } }

theorem wit_MovesStayWithinTheLimits_reserve :
    (live.lens.waitList = [] ∧ (waitsForPower 200 0).lens.waitList = focus2 :: [])
    ∧ (let s := waitsForPower 200 100
      let q := (s.axis focus2).params
      let free := s.reserveAmount - (s.allowances - (s.axis focus2).allowance)
      q.moveMA ≤ free ∧ free = 200 ∧ max q.vstart q.vstop ≤ q.vmax)
    ∧ (let s := waitsForPower 200 251
      let q := (s.axis focus2).params
      let free := s.reserveAmount - (s.allowances - (s.axis focus2).allowance)
      ¬ (q.moveMA = 0 ∨ s.reserveAmount = 0 ∨ q.moveMA ≤ free)
        ∧ max q.vstart q.vstop ≤ q.vmax * free / q.moveMA)
    ∧ (let s := waitsForPower 200 270
      let q := (s.axis focus2).params
      let free := s.reserveAmount - (s.allowances - (s.axis focus2).allowance)
      ¬ (q.moveMA = 0 ∨ s.reserveAmount = 0 ∨ q.moveMA ≤ free)
        ∧ q.vmax * free / q.moveMA < max q.vstart q.vstop) := by decide +kernel

theorem wit_MovesStayWithinTheLimits_events :
    (let s := waitsForPower 200 270
     let x := s.axis ⟨2, .iris⟩
     s.supplied = true ∧ x.staged = false ∧ x.state = .holding ∧ x.hold ≠ none ∧ 0 < x.allowance
      ∧ s.takes head = true ∧ axisArg 4 = some focus2 ∧ (s.port 2).scan.loader ≠ .running
      ∧ (s.axis focus2).staged = false ∧ (s.axis focus2).state = .waitPower
      ∧ s.lens.waitList.head? = some focus2)
    ∧ (let x := { ramp 4864 512 5120 .far with allowance := 500 }
      x.state = .moving ∧ x.moveStep.2 = true ∧ x.source = .command ∧ 0 < x.params.holdTime
        ∧ x.params.holdMA < x.allowance ∧ x.staged = false)
    ∧ (claiming.supplied = true ∧ claiming.line.tx = .attempt
      ∧ claiming.sendingItem = some ⟨.claim, true⟩ ∧ claiming.claims.inFlight = some (claimOn 1)
      ∧ (claimOn 1).withdrawn = false ∧ (claimOn 1).req.kind = .powerOn
      ∧ (claiming.port (claimOn 1).req.port).power.state = .claiming
      ∧ claiming.claims.reserveHeld = false ∧ claiming.commands.buffer = []) := by decide +kernel

/-- R68: the hold that expires gives its allowance back, and the head of the list goes. -/
theorem test_reserve_freed_lets_the_head_go :
    let s := waitsForPower 200 270
    (reevaluate s = s) ∧ (after (.holdExpiry ⟨2, .iris⟩) s).lens.waitList = []
      ∧ ((after (.holdExpiry ⟨2, .iris⟩) s).axis focus2).state = .moving
      ∧ ((after (.holdExpiry ⟨2, .iris⟩) s).axis focus2).allowance = 200 := by decide +kernel

theorem wit_ScanCommandsAct_refusals :
    (let s := loaded .loaded live
     s.takes head = true ∧ (s.port 2).scan.loader = .loaded
      ∧ ((s.modLink 2 fun l => { l with state := .training }).port 2).link.state = .training
      ∧ (s.port 2).link.state = .up ∧ (s.port 2).focus.state = .rest
      ∧ ({ s with lens := { s.lens with guardActive := true } }).lens.guardActive = true
      ∧ ((s.modAxis focus2 fun x => { x with state := .moving }).port 2).focus.state = .moving
      ∧ ((s.modAxis ⟨2, .iris⟩ fun x => { x with state := .lost }).port 2).iris.state = .lost) := by
  decide +kernel

theorem wit_EventsAndItemsAreServed_commit :
    live.takes head = true ∧ live.store.queue.length < 4 ∧ live.store.lastGeneration = none := by
  decide +kernel

theorem wit_TheNewestCopyIsNeverLost_lockouts :
    (let q : Places LockCopy := ⟨.valid ⟨.set, 65535⟩, .valid ⟨.clear, 65534⟩⟩
     q.newest LockCopy.serial = some ⟨.set, 65535⟩ ∧ 65535 = (65534 + 1) % 65536)
    ∧ (let q : Places LockCopy := ⟨.valid ⟨.set, 3⟩, .valid ⟨.clear, 300⟩⟩
      q.newest LockCopy.serial = some ⟨.clear, 300⟩ ∧ q.retained = true
        ∧ 300 ≠ (3 + 1) % 65536 ∧ 3 ≠ (300 + 1) % 65536)
    ∧ (live.nv.locks.get 1).newest LockCopy.serial = none := by decide +kernel


/-! ### Witnesses: held scan captures and parameters of a holding axis -/

/-- Port 2 in an exposure, a capture of its running scan held behind it. -/
def holds (c : Capture) (s : State) : State := s.modExposure 2 fun e => { e with held := some c }

theorem wit_ExposureTimersRunOut_held :
    (let s := holds ⟨3, 0, 1, true⟩ (exposing 2 .exposing (running .capture live))
     s.supplied = true ∧ (s.port 2).exposure.state = .exposing
      ∧ (s.port 2).exposure.origin = some (.line 4 41)
      ∧ (s.port 2).exposure.held = some ⟨3, 0, 1, true⟩ ∧ s.bounded = true
      ∧ s.img.policyWait 2 = false ∧ (s.port 2).link.time = .free ∧ (s.port 2).link.state = .up)
    ∧ (let s := holds ⟨3, 0, 1, true⟩ (movingUnder 1 40 .exposing)
      (s.port 2).exposure.held = some ⟨3, 0, 1, true⟩ ∧ s.bounded = true
        ∧ s.img.policyWait 2 = true ∧ s.poweredMoving 2 = true ∧ s.img.deferLimit 2 ≠ 0)
    ∧ (let s := (holds ⟨3, 0, 1, true⟩ (exposing 2 .exposing live)).modLink 2 fun l =>
        { l with time := .piece }
      (s.port 2).exposure.held = some ⟨3, 0, 1, true⟩ ∧ s.bounded = true
        ∧ (s.port 2).link.time = .piece ∧ s.img.policyWait 2 = false)
    ∧ (let s := (holds ⟨3, 0, 1, true⟩ (movingUnder 1 40 .exposing)).modAxis ⟨2, .iris⟩ fun x =>
        { x with state := .waitExposure }
      s.img.policyWait 2 = true ∧ (s.port 2).link.time = .free
        ∧ ((s.port 2).axis .iris).state = .waitExposure)
    ∧ ∀ c, Origin.line 4 41 = .scan c → c.run ≠ 3 :=
  ⟨by decide +kernel, by decide +kernel, by decide +kernel, by decide +kernel, fun _ h => nomatch h⟩

theorem wit_ExposureTimersRunOut_abandoning :
    (let s := (movingUnder 1 0 .delaying).modLink 2 fun l => { l with time := .abandoning }
     s.supplied = true ∧ (s.port 2).exposure.state = .delaying
      ∧ (s.port 2).exposure.timer.isSome = true ∧ (s.port 2).link.time = .abandoning
      ∧ s.img.policyWait 2 = true ∧ s.poweredMoving 2 = true ∧ s.img.deferLimit 2 = 0)
    ∧ (let s := (movingUnder 1 1 .delaying).modLink 2 fun l => { l with time := .abandoning }
      (s.port 2).link.time = .abandoning ∧ s.poweredMoving 2 = true ∧ s.img.deferLimit 2 ≠ 0)
    ∧ (let s := (movingUnder 1 1 .deferred).modLink 2 fun l => { l with time := .abandoning }
      (s.port 2).exposure.state = .deferred ∧ (s.port 2).link.time = .abandoning) := by
  decide +kernel

/-- R97, R99: the frame's end and the timeout of a triggered exposure take the held capture in their event. -/
theorem test_held_capture_is_taken :
    (let e := ((after (.exposeTimeout 2)
        (holds ⟨3, 0, 1, true⟩ (exposing 2 .exposing live))).port 2).exposure
     e.state = .exposing ∧ e.origin = some (.scan ⟨3, 0, 1, true⟩) ∧ e.held = none ∧ e.timeouts = 1)
    ∧ (let e := ((after (.frameEnd 2 2) (holds ⟨3, 0, 1, true⟩ receiving)).port 2).exposure
      e.state = .exposing ∧ e.origin = some (.scan ⟨3, 0, 1, true⟩) ∧ e.held = none ∧ e.timeouts = 0)
    := by decide +kernel

theorem wit_FramesAreReceived_held :
    (let s := holds ⟨3, 0, 1, true⟩ receiving
     s.supplied = true ∧ laneOpen s 2 = true ∧ (s.port 2).link.gate = .opened
      ∧ (s.port 2).exposure.origin = some (.line 4 41)
      ∧ (s.port 2).exposure.held = some ⟨3, 0, 1, true⟩ ∧ s.img.policyWait 2 = false)
    ∧ (let s := (holds ⟨3, 0, 1, true⟩ (movingUnder 1 40 .receiving)).modLink 2 fun l =>
        { l with gate := .opened }
      laneOpen s 2 = true ∧ (s.port 2).link.gate = .opened
        ∧ (s.port 2).exposure.held = some ⟨3, 0, 1, true⟩
        ∧ s.img.policyWait 2 = true ∧ s.poweredMoving 2 = true ∧ s.img.deferLimit 2 ≠ 0)
    ∧ (let s := (holds ⟨3, 0, 1, true⟩ (running .capture receiving)).modExposure 2 fun e =>
        { e with origin := some (.scan ⟨2, 0, 1, true⟩) }
      laneOpen s 2 = true ∧ (s.port 2).link.gate = .opened ∧ (s.port 2).scan.loader = .running
        ∧ (s.port 2).scan.runNumber = 3 ∧ (2 : Nat) ≠ 3) := by decide +kernel

/-- Axis 2-FOCUS in HOLDING with its hold timer running. -/
def inHold (mA : Nat) : State :=
  focusAs fun x => { x with state := .holding, allowance := mA, hold := some 5 }

/-- Parameter 10 is HOLD_MA, parameter 1 is hi. -/
theorem wit_LensCommandsAct_holding :
    (inHold 100).takes head = true ∧ ((inHold 100).axis focus2).state = .holding
      ∧ (let y := { (inHold 100).axis focus2 with
          shadow := ((inHold 100).axis focus2).shadow.write 10 20 }
        y.load.params.holdMA < 100 ∧ ¬ y.load.params.holdMA < 20)
      ∧ (let x := (focusAs fun x => { x with state := .holding, p := 2560 }).axis focus2
        ({ x with shadow := x.shadow.write 1 5 }).load.p ≠ x.p) := by decide +kernel

/-- R61, R62: HOLD_MA written in HOLDING takes the allowance down at once; the hold timer runs on. -/
theorem test_parameter_in_holding :
    let x := (after (.lensSetParam head 4 10 20) (inHold 100)).axis focus2
    x.allowance = 20 ∧ x.hold = some 5 ∧ x.state = .holding ∧ x.staged = false := by decide +kernel

/-! ### Witnesses: the clauses of the fourth review -/

/-- R175, R179: after a start STARTED alone is latched, which selection 3 watches by default. -/
theorem test_summary_flags_after_reset : summaryFlags State.reset = 8 := by decide +kernel

theorem wit_ReplyJoinsAFreeQueue_order :
    (let q := [aTrigger 0, ⟨.standing none, false⟩, ⟨.reply ⟨1, 7, 1, .done, .none, 0, 0, true, false, []⟩, false⟩,
        aReport]
     (q.map fun x => x.body.kind).Pairwise (· ≤ ·) ∧ (withQueue q live).muted = false
      ∧ q.length + (replyParts head 0x05 (done (List.replicate 216 0)) (summaryFlags live)).length = 16)
    ∧ (live.events[24]?.map EventEntry.latched) = some true
    ∧ (live.img.item 12 3).testBit 24 = true := by decide +kernel

theorem wit_PeerNoticesAreJudged_unheard :
    (let s := { live with line := { live.line with idle := 10 } }
     s.supplied = true ∧ s.line.idle ≠ 11 ∧ s.line.receiving = false)
    ∧ (let s := inAttempt .claim { live with line := { live.line with idle := 0 } }
      s.line.idle ≠ 11 ∧ s.line.receiving = false ∧ s.line.tx = .attempt)
    ∧ (∀ how, RxError.crc ≠ .brokeOff how) :=
  ⟨by decide +kernel, by decide +kernel, fun _ h => nomatch h⟩

/-- An ROI of columns 1 to 3 and rows 2 to 4, configured at port 2 and clipped to a frame of 4 by 3. -/
def metering : Metric := startMetric.frameStart (some ⟨1, 3, 2, 4⟩) .bits12 4 3 false

theorem wit_FramesAreReceived_metric :
    ¬ live.img.item 26 2 ≤ live.img.item 27 2
    ∧ (let s := exposing 2 .exposing (powered 2 400 .up (hub
        [(16, 2, 1), (26, 2, 1), (27, 2, 3), (28, 2, 2), (29, 2, 4)]))
      let i := s.img
      s.supplied = true ∧ laneOpen s 2 = true ∧ (s.port 2).exposure.state = .exposing
        ∧ (s.port 2).link.gate ≠ .opened ∧ (s.port 2).exposure.origin = some (.line 4 41)
        ∧ i.item 26 2 ≤ i.item 27 2 ∧ i.item 28 2 ≤ i.item 29 2
        ∧ min (i.item 27 2) (1 - 1) < i.item 26 2 ∧ i.item 26 2 ≤ min (i.item 27 2) (2 - 1)
        ∧ i.item 28 2 ≤ min (i.item 29 2) (3 - 1))
    ∧ (metering.active = true ∧ metering.clip = .area ⟨1, 3, 2, 2⟩ ∧ metering.width = 4
      ∧ metering.row ≠ some 2 ∧ (0 : Nat) + [(7 : BitVec 12), 8, 9, 10].length = metering.width
      ∧ 1 + [(8 : BitVec 12)].length ≤ 3 ∧ max (1 + [(8 : BitVec 12)].length) 1 < 3
      ∧ 3 + [(8 : BitVec 12)].length = metering.width)
    ∧ startMetric.active = false := by decide +kernel

/-- A record with `n` bytes of pixel data. -/
def filledTo (n : Nat) : SlotRecord := { frameOf 2 with pixels := List.replicate n 0 }

/-- A full slot of 8-bit pixels, in which a pixel finds no room, and one with room for one pixel. -/
theorem wit_FramesAreReceived_fullSlot :
    (∀ n, (filledTo n).truncated = false ∧ (filledTo n).format = .bits8 ∧ (filledTo n).pixels.length = n)
      ∧ 8388608 < 8388608 + 1 * [(7 : BitVec 12)].length
      ∧ 8388607 + 1 * [(7 : BitVec 12)].length ≤ 8388608 :=
  ⟨fun _ => ⟨rfl, rfl, List.length_replicate⟩, by decide +kernel, by decide +kernel⟩

/-- From rest, with the way at the first speed of 256 and one beyond it; braking with the target behind; and
ahead, with the way at the braking distance of 2,048, one beyond it, and at the speed. -/
theorem wit_LensUpdatesMoveTheAxis_steps :
    (let x := ramp 0 0 256 .near
     x.state = .moving ∧ x.vmaxe = some 1024 ∧ x.v = 0 ∧ x.p ≠ x.t ∧ x.moveStep.2 = true)
    ∧ (ramp 0 0 257 .near).moveStep.2 = false
    ∧ (ramp 512 0 512 .far).moveStep = (ramp 512 0 512 .far, true)
    ∧ (let x := ramp 3584 1024 2560 .far
      0 < x.v ∧ (x.t : Int) - x.p < 0 ∧ x.moveStep.1.v = 768)
    ∧ (ramp 0 1024 2048 .far).moveStep.1.v = 768 ∧ (ramp 0 1024 2049 .far).moveStep.1.v = 1024
    ∧ (ramp 0 1024 768 .far).moveStep = (ramp 768 0 768 .far, true) := by decide +kernel

/-- R76: a stop that would leave the travel limits ends at the limit. -/
theorem wit_LensUpdatesMoveTheAxis_stopAtTheLimit :
    let x := { ramp 3584 1024 5120 .far with state := .stopping, stopKind := some .command }
    let y := { x with params := { x.params with hi := 16 } }
    y.params.vstop ≤ y.v - y.params.decel y.v ∧ (y.stopStep (y.params.decel y.v)).v = 0
      ∧ (y.stopStep (y.params.decel y.v)).p = 4096 ∧ y.staged = false ∧ 0 < y.params.holdTime := by
  decide +kernel

theorem wit_StepsKeepTheSizes_queue :
    live.queueOrdered = true ∧ claiming.queueOrdered = true
      ∧ (after .attemptBegin (live.joinTx (.standing none))).queueOrdered = true
      ∧ (withQueue (List.replicate 16 aReport) live).queueOrdered = true := by decide +kernel

end Sys2Proof.Tests
end

section
/-! A command that is taken at once, and the statements of SET_LOCKOUT and CLEAR_LOCKOUT (R17, R18). -/

namespace Sys2Proof.Machine

/-! ### Commands taken at once (R170 to R173) -/

theorem State.takes_iff {s : State} {h : CmdHead} :
    s.takes h = true ↔ s.supplied = true ∧ addressed h s = true
      ∧ s.commands.unit = .ready ∧ s.commands.buffer = [] := by
  simp [State.takes, and_assoc]

@[simp] theorem State.begun_port (s : State) (p : Port) : s.begun.port p = s.port p := rfl

/-- R172: only RESTART has a reply of its own (R174). -/
theorem takeCommand_eq_replied {h : CmdHead} {c : Cmd} (hc : c ≠ .restart) (rest : List Received)
    (s : State) :
    let m := perform c (s.modCommands fun u =>
      { u with buffer := rest, taken := wrapInc 65536 u.taken })
    takeCommand ⟨h, c⟩ rest s = replied h c.code m.2 m.1 := by
  intro m
  simp only [takeCommand]
  split
  next => exact absurd rfl hc
  next => rfl

/-- R170: with room in the buffer and a READY unit, the command that arrives at an empty buffer is the one
that is taken. -/
theorem receive_of_takes {h : CmdHead} {s : State} (ht : s.takes h = true) (c : Cmd) :
    receive h c s.fresh
      = takeCommand ⟨h, c⟩ [] (s.fresh.modCommands fun u => { u with buffer := [⟨h, c⟩] }) := by
  obtain ⟨-, haddr, hready, hempty⟩ := State.takes_iff.mp ht
  have haddr' : addressed h s.fresh = true := haddr
  simp [receive, haddr', bufferFull, Config.rxPlaces, takeCommands, takeTimes, takeNext,
    State.modCommands, hready, hempty]

/-- R170, R172, R173: what the arrival of a command comes to where nothing holds it up. -/
theorem event_receive_of_takes {h : CmdHead} {c : Cmd} {s : State} (ht : s.takes h = true)
    (hc : c ≠ .restart) :
    s.event (receive h c)
      = .next (replied h c.code (perform c s.begun).2 (perform c s.begun).1) := by
  have hsupplied := (State.takes_iff.mp ht).1
  rw [State.event, if_pos hsupplied, receive_of_takes ht, takeCommand_eq_replied hc]
  rfl

/-- R172: a port number in range selects the port. -/
theorem onPort_of_portArg {b : Byte} {p : Port} (hp : portArg b = some p) (s : State)
    (f : Port → State × Answer) : onPort b s f = f p := by
  rw [onPort, hp]

/-! ### SET_LOCKOUT (R17) -/

theorem exec_setLockout_of_takes {h : CmdHead} {s : State} (ht : s.takes h = true) (b : Byte) :
    exec (.setLockout h b) s = .next
      (replied h 0x03 (cmdSetLockout b s.begun).2 (cmdSetLockout b s.begun).1) :=
  event_receive_of_takes ht (c := .setLockout b) nofun

theorem cmdSetLockout_of_off {b : Byte} {p : Port} {s : State} (hp : portArg b = some p)
    (hst : (s.port p).power.state = .off) :
    cmdSetLockout b s = (s.modPower p fun q => { q with volatileLock := true }, done []) := by
  rw [cmdSetLockout, onPort_of_portArg hp, hst]

theorem cmdSetLockout_of_claiming {b : Byte} {p : Port} {s : State} (hp : portArg b = some p)
    (hst : (s.port p).power.state = .claiming) :
    cmdSetLockout b s
      = (withdrawClaim p (s.modPower p fun q => { q with volatileLock := true }), done []) := by
  rw [cmdSetLockout, onPort_of_portArg hp, hst]

theorem cmdSetLockout_of_powered {b : Byte} {p : Port} {s : State} (hp : portArg b = some p)
    (hst : (s.port p).power.state.powered = true) :
    cmdSetLockout b s
      = (engineTake (powerOff p true (s.modPower p fun q => { q with volatileLock := true })),
        done []) := by
  rw [cmdSetLockout, onPort_of_portArg hp]
  cases hstate : (s.port p).power.state with
  | off => rw [hstate] at hst; cases hst
  | claiming => rw [hstate] at hst; cases hst
  | inrush => rfl
  | on => rfl

/-! ### CLEAR_LOCKOUT (R18) -/

theorem exec_clearLockout_of_takes {h : CmdHead} {s : State} (ht : s.takes h = true)
    (b kind : Byte) :
    exec (.clearLockout h b kind) s = .next
      (replied h 0x04 (cmdClearLockout b kind s.begun).2 (cmdClearLockout b kind s.begun).1) :=
  event_receive_of_takes ht (c := .clearLockout b kind) nofun

theorem cmdClearLockout_volatile {b : Byte} {p : Port} (hp : portArg b = some p) (s : State) :
    cmdClearLockout b 0 s = (s.modPower p fun q => { q with volatileLock := false }, done []) := by
  rw [cmdClearLockout, onPort_of_portArg hp, if_pos rfl]

theorem cmdClearLockout_retained {b : Byte} {p : Port} (hp : portArg b = some p) (s : State) :
    cmdClearLockout b 1 s
      = if (s.port p).power.retainedLock = false then (s, done [])
        else if (s.port p).power.clean = true then (setRetained p false s, done [])
        else (s, refuse .notClean) := by
  simp [cmdClearLockout, onPort_of_portArg hp]

/-- R14, R15: a lockout that is set and is cleared makes a pending CLEAR record. -/
theorem setRetained_false_of_set {p : Port} {s : State}
    (hset : (s.port p).power.retainedLock = true) :
    setRetained p false s = runStore (s.modPower p fun q =>
      { q with retainedLock := false, pendingRecord := some .clear }) := by
  simp [setRetained, hset]

end Sys2Proof.Machine

open Sys2Proof.Machine

/-- Settles O20: a command taken at once is its owner's effect and a reply, and the owner splits on the
port's power state. -/
theorem setLockoutByState : Obligations.SetLockoutByState := by
  intro h b p s ht hp t
  rw [exec_setLockout_of_takes ht]
  refine ⟨fun hoff => ?_, fun hclaiming => ?_, fun hpowered => ?_⟩
  · rw [cmdSetLockout_of_off hp (s := s.begun) hoff]
  · rw [cmdSetLockout_of_claiming hp (s := s.begun) hclaiming, withdrawClaim]
  · rw [cmdSetLockout_of_powered hp (s := s.begun) hpowered]

/-- Settles O21: by kind, and for the retained lockout by whether it is set and the cable clean. -/
theorem clearLockoutByKind : Obligations.ClearLockoutByKind := by
  intro h b p s ht hp
  simp only [exec_clearLockout_of_takes ht, cmdClearLockout_volatile hp,
    cmdClearLockout_retained hp, State.begun_port]
  refine ⟨trivial, fun hclear => ?_, fun hset hclean => ?_, fun hset hdirty => ?_⟩
  · simp [hclear]
  · simp [hset, hclean, setRetained_false_of_set (s := s.begun) hset]
  · simp [hset, hdirty]

end

section
/-! The command unit's one-part REPLYs: OVERFLOW (R171), and RESTART with the start it waits for (R174, R184). -/

namespace Sys2Proof.Machine

/-! ### A REPLY of one part (R164, R166) -/

/-- R165: the queue is full from 16 notices on. -/
theorem State.txFull_iff {s : State} : s.txFull = true ↔ 16 ≤ s.line.queue.length := by
  rw [State.txFull, decide_eq_true_iff, Config.txPlaces]

theorem offerReply_of_room {s : State} (hroom : s.line.queue.length < 16) (r : Reply) :
    offerReply s r = some (s.joinTx (.reply r)) := by
  rw [offerReply, if_neg (by rw [State.txFull_iff]; omega)]

theorem offerReply_of_report {s : State} (hfull : 16 ≤ s.line.queue.length) {q : List TxItem}
    (hq : dropYoungestReport s.line.queue = some q) (r : Reply) :
    offerReply s r
      = some ({ s with line := { s.line with queue := q } }.countReportLost.joinTx (.reply r)) := by
  rw [offerReply, if_pos (State.txFull_iff.mpr hfull), hq]

theorem offerReply_of_no_report {s : State} (hfull : 16 ≤ s.line.queue.length)
    (hq : dropYoungestReport s.line.queue = none) (r : Reply) : offerReply s r = none := by
  rw [offerReply, if_pos (State.txFull_iff.mpr hfull), hq]

/-- Where the one part of an OVERFLOW REPLY or of RESTART's reply goes: it joins the queue, or it `waits` as
the held REPLY, or it is `lost` to MUTE or to a held place that is taken. -/
def placeReply (r : Reply) (lost waits s : State) : State :=
  if s.muted then lost
  else
    match offerReply s r with
    | some t => t
    | none => if s.line.held.isSome then lost else waits

section
variable {s : State} (r : Reply) (lost waits : State)

theorem placeReply_of_muted (hmute : s.muted = true) : placeReply r lost waits s = lost := by
  rw [placeReply, if_pos hmute]

theorem placeReply_of_not_muted (hmute : s.muted = false) :
    placeReply r lost waits s
      = (offerReply s r).getD (if s.line.held.isSome then lost else waits) := by
  rw [placeReply, hmute, if_neg Bool.false_ne_true]
  cases offerReply s r <;> rfl

theorem placeReply_of_room (hmute : s.muted = false) (hroom : s.line.queue.length < 16) :
    placeReply r lost waits s = s.joinTx (.reply r) := by
  rw [placeReply_of_not_muted r lost waits hmute, offerReply_of_room hroom, Option.getD_some]

theorem placeReply_of_report (hmute : s.muted = false) (hfull : 16 ≤ s.line.queue.length)
    {q : List TxItem} (hq : dropYoungestReport s.line.queue = some q) :
    placeReply r lost waits s
      = { s with line := { s.line with queue := q } }.countReportLost.joinTx (.reply r) := by
  rw [placeReply_of_not_muted r lost waits hmute, offerReply_of_report hfull hq, Option.getD_some]

theorem placeReply_of_held_free (hmute : s.muted = false) (hfull : 16 ≤ s.line.queue.length)
    (hq : dropYoungestReport s.line.queue = none) (hheld : s.line.held = none) :
    placeReply r lost waits s = waits := by
  rw [placeReply_of_not_muted r lost waits hmute, offerReply_of_no_report hfull hq,
    Option.getD_none, hheld, Option.isSome_none, if_neg Bool.false_ne_true]

theorem placeReply_of_held_taken (hmute : s.muted = false) (hfull : 16 ≤ s.line.queue.length)
    (hq : dropYoungestReport s.line.queue = none) (hheld : s.line.held ≠ none) :
    placeReply r lost waits s = lost := by
  rw [placeReply_of_not_muted r lost waits hmute, offerReply_of_no_report hfull hq,
    Option.getD_none, if_pos (Option.isSome_iff_ne_none.mpr hheld)]

end

/-! ### A command that finds the buffer full (R171) -/

/-- Log 1: a row of the catalogue is the arrival of its command at the command unit; the rows that are events
carry none. -/
theorem exec_eq_receive {i : Instr} {h : CmdHead} {c : Cmd} (hi : i.cmd? = some (h, c)) (s : State) :
    exec i s = s.event (receive h c) := by
  cases i <;> cases hi <;> rfl

/-- R171: the REPLY to a command that is not executed. -/
def overflowReply (h : CmdHead) (code : Byte) (s : State) : Reply :=
  ⟨h.sender, h.tag, code, .refused, .overflow, summaryFlags s, 0, true, false, []⟩

/-- R171: the event in which a command overflows, once the command is counted. -/
def State.overflowed (s : State) : State :=
  { s.fresh with commands := { s.commands with overflows := holdInc 65535 s.commands.overflows } }

theorem overflow_eq_placeReply (h : CmdHead) (code : Byte) (s : State) :
    overflow h code s.fresh = placeReply (overflowReply h code s) s.overflowed.countReplyLost
      { s.overflowed with line := { s.line with held := some (.overflow (overflowReply h code s)) } }
      s.overflowed := rfl

theorem exec_of_buffer_full {i : Instr} {h : CmdHead} {c : Cmd} {s : State}
    (hi : i.cmd? = some (h, c)) (hsup : s.supplied = true) (haddr : addressed h s = true)
    (hfull : s.commands.buffer.length = 4) :
    exec i s = .next (overflow h c.code s.fresh) := by
  have haddr' : addressed h s.fresh = true := haddr
  have hfull' : bufferFull s.fresh = true := by simp [bufferFull, hfull, Config.rxPlaces]
  rw [exec_eq_receive hi, State.event, if_pos hsup, receive, if_pos haddr', if_pos hfull']

/-! ### RESTART taken at once (R174) -/

/-- R173, R174: the one part of RESTART's reply. -/
def restartReply (h : CmdHead) (s : State) : Reply :=
  ⟨h.sender, h.tag, 0x1F, .done, .none, summaryFlags s, 0, true, false, []⟩

/-- R174: the state in which RESTART's reply is offered. -/
def State.restarting (s : State) : State :=
  s.begun.modCommands fun c => { c with unit := .restarting }

theorem exec_restart_of_takes {h : CmdHead} {s : State} (ht : s.takes h = true) :
    exec (.restart h) s = .next (placeReply (restartReply h s)
      (startHub .restart s.restarting.countReplyLost)
      (holdPart (s.restarting.modCommands fun c => { c with parts := [restartReply h s] }))
      s.restarting) := by
  have hsup := (State.takes_iff.mp ht).1
  rw [exec_eq_receive (c := .restart) rfl, State.event, if_pos hsup, receive_of_takes ht]
  rfl

/-! ### The start (R184) -/

theorem breakOff_eq_out (s : State) : ∃ o, breakOff s = { s with out := o } := by
  unfold breakOff
  extract_lets a
  obtain ⟨o, ha⟩ : ∃ o, a = { s with out := o } := by
    unfold a
    split <;> exact ⟨_, rfl⟩
  rw [ha]
  split <;> exact ⟨_, rfl⟩

theorem cutStoreOp_of_idle {s : State} (hw : s.store.inFlight = none) : cutStoreOp s = s := by
  rw [cutStoreOp, hw]

theorem cutStoreOp_withOut (s : State) (o : List Out) :
    cutStoreOp { s with out := o } = { cutStoreOp s with out := o } := by
  unfold cutStoreOp
  dsimp only
  split <;> rfl

/-- R184: but for what goes out on the way, a start is the fresh state over the store operation that it cuts
short, and then the latch of STARTED. -/
theorem startHub_eq_latch (cause : StartCause) (s : State) :
    ∃ o d, startHub cause s
      = State.latch { freshState cause (cutStoreOp s) with out := o } .started none d := by
  obtain ⟨o, ho⟩ := breakOff_eq_out s
  unfold startHub
  simp only [ho, cutStoreOp_withOut]
  split <;> exact ⟨_, _, rfl⟩

@[simp] theorem State.offerReport_held (s : State) (r : Report) :
    (s.offerReport r).line.held = s.line.held := by
  unfold State.offerReport
  split <;> rfl

@[simp] theorem State.latch_held (s : State) (e : EventName) (p : Option Port) (d : Detail) :
    (s.latch e p d).line.held = s.line.held := by
  unfold State.latch
  dsimp only
  split
  · rw [State.offerReport_held]
  · rfl

@[simp] theorem startHub_claims (cause : StartCause) (s : State) :
    (startHub cause s).claims = startClaims := by
  obtain ⟨o, d, h⟩ := startHub_eq_latch cause s
  rw [h, State.latch_claims]
  rfl

@[simp] theorem startHub_locator (cause : StartCause) (s : State) :
    (startHub cause s).locator = startLocator := by
  obtain ⟨o, d, h⟩ := startHub_eq_latch cause s
  rw [h, State.latch_locator]
  rfl

@[simp] theorem startHub_commands (cause : StartCause) (s : State) :
    (startHub cause s).commands = startCommands := by
  obtain ⟨o, d, h⟩ := startHub_eq_latch cause s
  rw [h, State.latch_commands]
  rfl

@[simp] theorem startHub_held (cause : StartCause) (s : State) :
    (startHub cause s).line.held = none := by
  obtain ⟨o, d, h⟩ := startHub_eq_latch cause s
  rw [h, State.latch_held]
  rfl

/-- Section 1.1: after a start every port is OFF and its switch open. -/
theorem startHub_port_off (cause : StartCause) (s : State) (p : Port) :
    ((startHub cause s).port p).power.state = .off
      ∧ ((startHub cause s).port p).power.closed = false := by
  obtain ⟨o, d, h⟩ := startHub_eq_latch cause s
  rw [h, State.latch_port]
  fin_cases p <;> exact ⟨rfl, rfl⟩

theorem startHub_restart_hubTime {s : State} (hw : s.store.inFlight = none) :
    (startHub .restart s).hubTime = s.hubTime := by
  obtain ⟨o, d, h⟩ := startHub_eq_latch .restart s
  rw [h, State.latch_hubTime, cutStoreOp_of_idle hw]
  rfl

theorem startHub_station {cause : StartCause} {s : State} (hw : s.store.inFlight = none) :
    (startHub cause s).station = stationOf s.straps := by
  obtain ⟨o, d, h⟩ := startHub_eq_latch cause s
  rw [h, State.latch_station, cutStoreOp_of_idle hw]
  rfl

/-- R182, R184: the image in force is the one that the fresh state takes from the store. -/
theorem startHub_inForce {cause : StartCause} {s : State} (hw : s.store.inFlight = none) :
    (startHub cause s).store.inForce = (freshState cause s).store.inForce := by
  obtain ⟨o, d, h⟩ := startHub_eq_latch cause s
  rw [h, State.latch_store, cutStoreOp_of_idle hw]

/-! ### A freed place that nothing waits for (R166) -/

theorem tryClaim_of_queue_nil {s : State} (hq : s.claims.queue = []) : tryClaim s = s := by
  rw [tryClaim, hq]

theorem fillStanding_of_not_wanted {s : State} (hw : s.claims.standingWanted = false) :
    fillStanding s = s := by
  simp [fillStanding, hw]

theorem fillHeld_of_not_held {s : State} (hheld : s.line.held = none) : fillHeld s = s := by
  rw [fillHeld, hheld, ite_self]

theorem takeCommands_of_buffer_nil {s : State} (hb : s.commands.buffer = []) :
    takeCommands s = s := by
  rw [takeCommands, hb, List.length_nil, takeTimes]

/-- R166, R172: with no claim, no wanted STANDING, no held REPLY and no command waiting, a place that comes
free stays free. -/
theorem fillPlaces_of_none_waiting {s : State} (hq : s.claims.queue = [])
    (hw : s.claims.standingWanted = false) (hheld : s.line.held = none)
    (hb : s.commands.buffer = []) : fillPlaces s = s := by
  rw [fillPlaces, tryClaim_of_queue_nil hq, fillStanding_of_not_wanted hw,
    fillHeld_of_not_held hheld, takeCommands_of_buffer_nil hb]

theorem grantPiece_of_engine_idle {s : State} (he : s.locator.engine = .idle) :
    grantPiece s = s := by
  rw [grantPiece, he]

/-- R184: after a start nothing waits for a place. -/
theorem fillPlaces_startHub (cause : StartCause) (s : State) :
    fillPlaces (startHub cause s) = startHub cause s :=
  fillPlaces_of_none_waiting (by rw [startHub_claims]; rfl) (by rw [startHub_claims]; rfl)
    (startHub_held cause s) (by rw [startHub_commands]; rfl)

/-- R184: after a start no session waits for a gap. -/
theorem grantPiece_startHub (cause : StartCause) (s : State) :
    grantPiece (startHub cause s) = startHub cause s :=
  grantPiece_of_engine_idle (by rw [startHub_locator]; rfl)

/-! ### The end of an attempt (R162, R174) -/

/-- R162: the notice whose attempt ends leaves the queue, and the line is READY again. -/
def State.attemptDone (s : State) : State :=
  s.fresh.modLine fun l =>
    { l with tx := .ready, idle := 0, receiving := false, failureRun := 0,
             queue := l.queue.filter fun x => !x.sending }

theorem exec_attemptEnd_of_sending {s : State} {it : TxItem} (heard flaw hold : Bool)
    (hsup : s.supplied = true) (htx : s.line.tx = .attempt) (hit : s.sendingItem = some it) :
    exec (.attemptEnd heard flaw hold) s
      = .next (grantPiece (fillPlaces (ownerActs it.body flaw hold s.attemptDone))) := by
  have htx' : s.fresh.line.tx = .attempt := htx
  have hit' : s.fresh.sendingItem = some it := hit
  simp only [exec, execAttemptEnd, State.event, hsup, htx', hit', if_true]
  rfl

/-- R174: the end of the attempt of RESTART's reply is the start. -/
theorem exec_attemptEnd_of_restartReply {s : State} {it : TxItem} {r : Reply}
    (heard flaw hold : Bool) (hsup : s.supplied = true) (htx : s.line.tx = .attempt)
    (hit : s.sendingItem = some it) (hbody : it.body = .reply r) (hr : isRestartReply r = true)
    (hunit : s.commands.unit = .restarting) :
    exec (.attemptEnd heard flaw hold) s = .next (startHub .restart s.attemptDone) := by
  have hunit' : s.attemptDone.commands.unit = .restarting := hunit
  rw [exec_attemptEnd_of_sending heard flaw hold hsup htx hit, hbody, ownerActs,
    if_pos ⟨hunit', hr⟩, fillPlaces_startHub, grantPiece_startHub]

end Sys2Proof.Machine

open Sys2Proof.Machine

/-- Settles O8: the command that finds the buffer full goes to `overflow`, whose REPLY has one part. -/
theorem commandOverflowIsAnswered : Obligations.CommandOverflowIsAnswered := by
  intro i h c s hi hsup haddr hfull u r
  rw [exec_of_buffer_full hi hsup haddr hfull, overflow_eq_placeReply]
  refine ⟨fun hmute => ?_, fun hmute hroom => ?_, fun hmute hlen q hq => ?_,
    fun hmute hlen hq hheld => ?_, fun hmute hlen hq hheld => ?_⟩
  · rw [placeReply_of_muted _ _ _ (s := s.overflowed) hmute]; rfl
  · rw [placeReply_of_room _ _ _ (s := s.overflowed) hmute hroom]; rfl
  · rw [placeReply_of_report _ _ _ (s := s.overflowed) hmute hlen hq]; rfl
  · rw [placeReply_of_held_free _ _ _ (s := s.overflowed) hmute hlen hq hheld]; rfl
  · rw [placeReply_of_held_taken _ _ _ (s := s.overflowed) hmute hlen hq hheld]; rfl

/-- Settles O15: RESTART's reply has one part, and after the start as that reply leaves nothing waits for the
freed place, so the event ends with it. -/
theorem restartStartsAfterItsReply : Obligations.RestartStartsAfterItsReply := by
  refine ⟨fun h s ht => ?_, fun heard flaw hold s it r hsup htx hit hbody hr hunit hw => ?_⟩
  · rw [exec_restart_of_takes ht]
    refine ⟨fun hmute hroom => ?_, fun hmute => ?_, fun hmute hlen hq hheld => ?_⟩
    · rw [placeReply_of_room _ _ _ (s := s.restarting) hmute hroom]; rfl
    · rw [placeReply_of_muted _ _ _ (s := s.restarting) hmute]; rfl
    · rw [placeReply_of_held_taken _ _ _ (s := s.restarting) hmute hlen hq hheld]; rfl
  · have hw' : s.attemptDone.store.inFlight = none := hw
    exact ⟨_, exec_attemptEnd_of_restartReply heard flaw hold hsup htx hit hbody hr hunit,
      startHub_port_off .restart s.attemptDone, startHub_station hw',
      startHub_commands .restart s.attemptDone, startHub_restart_hubTime hw', startHub_inForce hw'⟩

end
